-- ==== Sys2Proof/Word.lean ====
section
/-! DEFINITION. The words of CANABLE-MBX: a byte, a nybble, a numeric bit rate (spec/00_scope.md R10, spec/10_state.md R25). -/

namespace Sys2Proof

/-- A byte of a line, of a stream or of a payload (R10). -/
abbrev Byte := BitVec 8

/-- A nybble, four bits (R10). -/
abbrev Nybble := BitVec 4

/-- A numeric bit rate in bit/s; twenty bits hold 1000000 (R25, D25). -/
abbrev Rate := BitVec 20

end Sys2Proof
end

