-- ==== Sys2Proof/Config.lean ====
section
/-! DEFINITION. What an implementation fixes, as the configuration record of spec/00_scope.md R8, the CAN frame record (spec/10_state.md
R21), and the free values: opaque constants of which nothing can be proved, one for each value the spec leaves to a draw (R11) or to a
parameter it leaves OPEN. -/

namespace Sys2Proof

/-- The status a command returns: `STATUS_OK` (0) or `STATUS_FAIL` (-1) (R39, R151). -/
inductive Status where
  | ok
  | fail
deriving DecidableEq, Repr, Inhabited

namespace Config

/-! ### The parameters of the block -/

/-- The values of the controller's bit-timing registers, as one coded number: no layout is in the source (N3; log 10). -/
abbrev TimingValues := Nat

/-- The reference's `TIMING`, OPEN in R8 (U19; log 10). -/
opaque openTiming : Rate → TimingValues

/-- The reference's `STATUS_ON_QFULL`, OPEN in R8: 0 or -1, a draw of its own at draw number `n` (D15; log 11). -/
opaque openStatusOnQfull (n : Nat) : Status

/-- The reference's `TICK_W`, OPEN in R8. -/
opaque openTickWidth : Nat

/-- The reference's `LED_MIN_ON`, OPEN in R8. -/
opaque openLedMinOn : Nat

/-- The configuration record of R8: every parameter of the block, with the reference's value as its default (log 26). -/
structure Parameters where
  /-- `N`, the slots of the transmit ring. -/
  slots : Nat := 28
  /-- `LINE_CAP`, the bytes of the line buffer. -/
  lineCap : Nat := 30
  /-- `TERM`, the line terminator, carriage return. -/
  term : Byte := 0x0D#8
  /-- `NRATES`, the number of valid bit-rate selectors. -/
  nRates : Nat := 9
  /-- `RATE_TABLE`, selector first, by list position (D4, C1; log 8). -/
  rateTable : List Rate :=
    [10000#20, 20000#20, 50000#20, 100000#20, 125000#20, 250000#20, 500000#20, 750000#20, 1000000#20]
  /-- `DEFAULT_RATE`, the rate `initialize()` configures. -/
  defaultRate : Rate := 125000#20
  /-- `FALLBACK_RATE`, the rate of an invalid selector. -/
  fallbackRate : Rate := 1000000#20
  /-- `ID_NYB_STD`, the identifier nybbles of a standard line. -/
  idNybStd : Nat := 3
  /-- `ID_NYB_EXT`, the identifier nybbles of an extended line. -/
  idNybExt : Nat := 8
  /-- `ID_BITS_STD`, the standard identifier's width on the bus. -/
  idBitsStd : Nat := 11
  /-- `ID_BITS_EXT`, the extended identifier's width on the bus. -/
  idBitsExt : Nat := 29
  /-- `DLC_MAX`, the largest legal length. -/
  dlcMax : Nat := 8
  /-- `DATA_SLOTS`, the payload bytes always carried. -/
  dataSlots : Nat := 8
  /-- `STATUS_FAIL`, the number of a parse failure. -/
  statusFail : Int := -1
  /-- `STATUS_OK`, the number of success (D14). -/
  statusOk : Int := 0
  /-- `STATUS_ON_QFULL`, at each draw number. -/
  statusOnQfull : Nat → Status := openStatusOnQfull
  /-- `TIMING(rate)`. -/
  timing : Rate → TimingValues := openTiming
  /-- `TICK_W`, read by no rule (N9; log 15). -/
  tickWidth : Nat := openTickWidth
  /-- `LED_MIN_ON`, read by no rule (N9). -/
  ledMinOn : Nat := openLedMinOn

/-- The block's parameters: the reference's, all at their defaults (R8). Every definition of the model reads a parameter from here. -/
abbrev params : Parameters := {}

/-- `N` (R8, R9). -/
abbrev ringSlots : Nat := params.slots

/-- `N - 1`, the usable capacity of the ring (R8, R9). -/
abbrev usableSlots : Nat := ringSlots - 1

/-- `LINE_CAP` (R8). -/
abbrev lineCap : Nat := params.lineCap

/-- `TERM` (R8, R90). -/
def term : Byte := params.term

/-- `NRATES` (R8). -/
def nRates : Nat := params.nRates

/-- `DEFAULT_RATE` (R8, R120). -/
def defaultRate : Rate := params.defaultRate

/-- `DLC_MAX` (R8). -/
def dlcMax : Nat := params.dlcMax

/-- `DATA_SLOTS` (R8). -/
abbrev dataSlots : Nat := params.dataSlots

/-- `ID_NYB_STD` or `ID_NYB_EXT` (R8). -/
def idNybbles (ext : Bool) : Nat := if ext then params.idNybExt else params.idNybStd

/-- `ID_BITS_STD` or `ID_BITS_EXT` (R8). -/
def idBits (ext : Bool) : Nat := if ext then params.idBitsExt else params.idBitsStd

/-- `TIMING(rate)` (R8, U19; log 10). -/
def timing : Rate → TimingValues := params.timing

/-- `STATUS_ON_QFULL`: the status of a frame command whose enqueue fails, either of the two (R8, D15; log 11). -/
def statusOnQfull : Nat → Status := params.statusOnQfull

end Config

/-- The signed number the spec writes for a status (R8, R151). -/
def Status.code : Status → Int
  | .ok => Config.params.statusOk
  | .fail => Config.params.statusFail

/-- One CAN message (R21). `ext`: extended identifier format. `rtr`: REMOTE. The identifier is stored 32 bits wide and is neither
checked nor truncated (R23). All eight payload slots always hold a value, whatever `len` says (R21). -/
structure Frame where
  ext : Bool
  rtr : Bool
  id : BitVec 32
  len : BitVec 4
  data : Vector Byte Config.dataSlots
deriving DecidableEq, Repr, Inhabited

/-- The standard DATA frame of zeros: what the model puts where the spec gives a frame register no reset value (log 5). -/
def Frame.zero : Frame := ⟨false, false, 0#32, 0#4, Vector.replicate _ 0#8⟩

/-! ### Free values -/

namespace Config

/-- `draw(byte)` for the line position `pos` of the line dispatched as draw number `n`: a character that is not a hex digit, or a
position the line did not supply (R64, R94, R105; log 3). -/
opaque freeByte (n pos : Nat) : Byte

/-- `draw(Frame)`: what a spurious `receive_drain()` reads (R134; log 13). -/
opaque freeFrame (n : Nat) : Frame

end Config

/-- The CAN controller behind the port `Ctl`, an environment agent (R43). Its answers are under no law of the spec; the block's
transactions write the registers R43 says they write, and between two steps the environment may change any of it (R71; log 2,
log 14). -/
structure Controller where
  /-- TX in progress, the answer of `Ctl.txip()`. -/
  txip : Bool
  /-- FIFO available, the answer of `Ctl.fav()`. -/
  fav : Bool
  /-- The hardware-ready bit that `reset_configure_unfreeze` waits for (R123). -/
  ready : Bool
  /-- Whether the next `Ctl.submit` is answered `ok` (true) or `rejected` (R130). -/
  accepts : Bool
  /-- The output mailbox of the RX FIFO, the answer of `Ctl.rx_read()`. -/
  rxMailbox : Frame
  /-- The internal mailbox latch a FIFO read locks (R43, R133). -/
  rxLatch : Bool
  /-- The single dedicated TX mailbox. -/
  txMailbox : Frame
  /-- The bit-timing registers. -/
  timing : Config.TimingValues
  /-- The mode the configure sequence last selected. -/
  listenOnly : Bool
  /-- The freeze gate (R13, R235). -/
  frozen : Bool
  /-- The global receive filter is armed, accept-all (R121). -/
  filterArmed : Bool
  /-- The enabled/masked condition: masked (R124). -/
  masked : Bool
deriving DecidableEq, Repr, Inhabited

/-- One move of the environment between two steps of the sequencer (R7, R71; log 2): the controller as it then stands, the bytes
the host makes available, and the number of tick interrupts that come (R229). -/
structure EnvMove where
  ctl : Controller
  bytes : List Byte
  ticks : Nat
deriving DecidableEq, Repr, Inhabited

/-- The environment's `n`-th unscheduled move: nothing constrains it (R43, D3; log 2). -/
opaque Config.envMove (n : Nat) : EnvMove

end Sys2Proof
end

