-- ==== Sys2Proof/Machine/State.lean ====
section
/-! DEFINITION. The state of CANABLE-MBX as plain data (spec/10_state.md R20, R42 to R45), the reasons a step can stop, the state
after reset (R47), and one named update for each field the operations write. -/

namespace Sys2Proof.Machine

open Sys2Proof

/-- The bus state (R24), also the block's two modes (R234). -/
inductive BusState where
  | offBus
  | onBus
deriving DecidableEq, Repr, Inhabited

/-- The phase of the poll iteration, the block's only program counter (R36). -/
inductive Phase where
  | p1Input
  | p2Led
  | p3TxSvc
  | p4RxSvc
deriving DecidableEq, Repr, Inhabited

/-- One port transaction with what it carried or answered (R42 to R44, R70). -/
inductive PortEvent where
  /-- `Ctl.apply_timing(t)`. -/
  | applyTiming (t : Config.TimingValues)
  /-- `Ctl.reset_configure_unfreeze(lom)`, recorded when it is issued; it may wait (R123). -/
  | resetConfigureUnfreeze (lom : Bool)
  /-- `Ctl.arm_filter()`. -/
  | armFilter
  /-- `Ctl.mask()`. -/
  | mask
  /-- `Ctl.txip()` with its answer. -/
  | txip (answer : Bool)
  /-- `Ctl.submit(f)` with its answer: true is `ok`, false is `rejected`. -/
  | submit (f : Frame) (accepted : Bool)
  /-- `Ctl.fav()` with its answer. -/
  | fav (answer : Bool)
  /-- `Ctl.rx_read()` with the frame it returned. -/
  | rxRead (f : Frame)
  /-- `Ctl.rx_clear()`. -/
  | rxClear
  /-- `Ind.bus_up()`. -/
  | busUp
  /-- `Ind.bus_down()`. -/
  | busDown
  /-- `In.avail()` with its answer. -/
  | inAvail (answer : Bool)
  /-- `In.pop()` with the byte it removed. -/
  | inPop (b : Byte)
  /-- `Out.write(bytes)`, a whole line. -/
  | outWrite (bytes : List Byte)
deriving DecidableEq, Repr

/-- Faults. There are none: the block has no misaligned access, bus error or bounds exception, and no failure stops the poll loop
(R65, R220, R231). Nobody raises one, so the type has no constructor; that is safe. -/
inductive Fault where
deriving DecidableEq, Repr

/-- Why the model gives a step no meaning. -/
inductive Refusal where
  /-- An instruction of the table that has no meaning yet, by its mnemonic. Raised by `exec`'s refused arms only (there are none
  left). Safe: the model says nothing of it. -/
  | notModelled (mnemonic : String)
  /-- The receive port delivered a frame with `len > 8`, for which R197 refuses a rendering. Raised by step P4, by no host command.
  Safe: the model stops where the spec gives no meaning (log 12). -/
  | receivedLengthAbove8
deriving DecidableEq, Repr

/-- The whole machine. -/
structure State where
  /-- BUS (R24). -/
  bus : BusState
  /-- RATE, the configured bit rate (R25). -/
  rate : Rate
  /-- LOM, listen-only selected for the next `enable()` (R26). -/
  lom : Bool
  /-- ART, the auto-retransmit request, read by nothing (R27). -/
  art : Bool
  /-- The transmit ring Q (R28). -/
  q : Vector Frame Config.ringSlots
  /-- HEAD, the slot the next enqueue writes (R29). -/
  head : Fin Config.ringSlots
  /-- TAIL, the slot the next dequeue reads (R30). -/
  tail : Fin Config.ringSlots
  /-- LINE, the host command line buffer (R32). -/
  line : Vector Byte Config.lineCap
  /-- LEN, the bytes accumulated in LINE (R33). -/
  len : Fin (Config.lineCap + 1)
  /-- RXF, RX storage (R34). -/
  rxf : Frame
  /-- IM, the interrupt mask: true inside P1 (R35, R209). -/
  im : Bool
  /-- PH, the phase (R36). -/
  ph : Phase
  /-- QFULL_CNT (R37). -/
  qfullCnt : Nat
  /-- TXFAIL_CNT (R38). -/
  txfailCnt : Nat
  /-- DEC_STATUS (R39). -/
  decStatus : Status
  /-- MODEL's own: the sequencer stands inside `enable()`, waiting for the controller to report ready (R123; log 4). -/
  opening : Bool
  /-- MODEL's own: how many draws have been taken (R11; log 3). -/
  draws : Nat
  /-- The CAN controller, environment state (R43). -/
  ctl : Controller
  /-- The inbound byte stream, oldest first, environment state (R44). -/
  inbound : List Byte
  /-- The outbound byte stream, oldest first: all the block has written (R44). -/
  outbound : List Byte
  /-- The millisecond tick, environment state (R45). -/
  tick : Nat
  /-- MODEL's own: environment moves fixed in advance, oldest first (log 2). -/
  schedule : List EnvMove
  /-- MODEL's own: how many free environment moves have been taken (log 2). -/
  envSteps : Nat
  /-- MODEL's own: the port transactions issued so far, oldest first (R70; log 7). -/
  trace : List PortEvent
deriving DecidableEq, Repr

/-- The controller beside `State.reset`: reset does not touch it (R47), so every value here is the model's choice (log 6). -/
def resetController : Controller :=
  { txip := false, fav := false, ready := true, accepts := true, rxMailbox := Frame.zero, rxLatch := false,
    txMailbox := Frame.zero, timing := 0, listenOnly := false, frozen := true, filterArmed := false, masked := true }

/-- The machine after `initialize()` and before the first poll iteration (R47, R120, R250). ART, Q, LINE, RXF and DEC_STATUS have no
reset value in the spec (log 5); the environment's values are the model's choice (log 6). -/
def State.reset : State :=
  { bus := .offBus, rate := Config.defaultRate, lom := false, art := false,
    q := Vector.replicate _ Frame.zero, head := 0, tail := 0,
    line := Vector.replicate _ 0#8, len := 0, rxf := Frame.zero,
    im := false, ph := .p1Input, qfullCnt := 0, txfailCnt := 0, decStatus := .ok,
    opening := false, draws := 0,
    ctl := resetController, inbound := [], outbound := [], tick := 0, schedule := [], envSteps := 0, trace := [] }

/-! ### Named updates -/

/-- Write BUS. -/
def State.setBus (b : BusState) (s : State) : State := { s with bus := b }
/-- Write RATE. -/
def State.setRate (r : Rate) (s : State) : State := { s with rate := r }
/-- Write LOM. -/
def State.setLom (b : Bool) (s : State) : State := { s with lom := b }
/-- Write ART. -/
def State.setArt (b : Bool) (s : State) : State := { s with art := b }
/-- Write the ring's slots. -/
def State.setQ (q : Vector Frame Config.ringSlots) (s : State) : State := { s with q := q }
/-- Write HEAD. -/
def State.setHead (i : Fin Config.ringSlots) (s : State) : State := { s with head := i }
/-- Write TAIL. -/
def State.setTail (i : Fin Config.ringSlots) (s : State) : State := { s with tail := i }
/-- Write the line buffer's bytes. -/
def State.setLine (l : Vector Byte Config.lineCap) (s : State) : State := { s with line := l }
/-- Write LEN. -/
def State.setLen (n : Fin (Config.lineCap + 1)) (s : State) : State := { s with len := n }
/-- Write RXF. -/
def State.setRxf (f : Frame) (s : State) : State := { s with rxf := f }
/-- Write IM. -/
def State.setIm (b : Bool) (s : State) : State := { s with im := b }
/-- Write PH. -/
def State.setPh (p : Phase) (s : State) : State := { s with ph := p }
/-- Count one Queue-full event. -/
def State.bumpQfull (s : State) : State := { s with qfullCnt := s.qfullCnt + 1 }
/-- Count one Hardware-write-rejected event. -/
def State.bumpTxfail (s : State) : State := { s with txfailCnt := s.txfailCnt + 1 }
/-- Write DEC_STATUS. -/
def State.setStatus (st : Status) (s : State) : State := { s with decStatus := st }
/-- Enter or leave the ready-wait. -/
def State.setOpening (b : Bool) (s : State) : State := { s with opening := b }
/-- Take one draw. -/
def State.nextDraw (s : State) : State := { s with draws := s.draws + 1 }
/-- Write the controller's record. -/
def State.setCtl (c : Controller) (s : State) : State := { s with ctl := c }
/-- Write the inbound stream. -/
def State.setInbound (bs : List Byte) (s : State) : State := { s with inbound := bs }
/-- Append to the outbound stream. -/
def State.appendOut (bs : List Byte) (s : State) : State := { s with outbound := s.outbound ++ bs }
/-- Record one port transaction. -/
def State.log (e : PortEvent) (s : State) : State := { s with trace := s.trace ++ [e] }

end Sys2Proof.Machine
end

