-- ==== Sys2Proof/Machine/Flags.lean ====
section
/-! DEFINITION. Every flag of the block: the two diagnostic counters and the decoder status. No other flag exists (spec/10_state.md
R37 to R40). -/

namespace Sys2Proof.Machine

/-- `STATUS_OK` for the command that returns (R151). -/
def returnOk (s : State) : State := s.setStatus .ok

/-- `STATUS_FAIL` for the line that failed to parse (R151, R224). -/
def returnFail (s : State) : State := s.setStatus .fail

/-- One Queue-full event on the diagnostic side channel (R37). -/
def countQueueFull (s : State) : State := s.bumpQfull

/-- One Hardware-write-rejected event on the diagnostic side channel (R38). -/
def countWriteRejected (s : State) : State := s.bumpTxfail

/-- The status of a frame command whose enqueue fails is a draw between OK and FAIL (R164, D15; log 11). -/
def returnOnQueueFull (s : State) : State := (s.setStatus (Config.statusOnQfull s.draws)).nextDraw

end Sys2Proof.Machine
end

