-- ==== Sys2Proof/Syntax.lean ====
section
/-! DEFINITION. The twelve host commands, one constructor for each row of spec/opcode_table.json (spec/30_encoding.md R100), with the
operands the decoder assembles for it (R96 to R99). -/

namespace Sys2Proof

/-- A decoded host command. An operand holds what the nybble reads gave (R95): `d` and `len8` are whole bytes, since a drawn nybble
need not be below 16 (R94); whether they are legal is the command's own check (R154, R164; log 24). -/
inductive Instr where
  /-- `O`: open, `enable()` (R152). -/
  | openBus
  /-- `C`: close, `disable()` (R153). -/
  | closeBus
  /-- `S`: set the bit-rate selector (R154). -/
  | setBitrate (d : Byte)
  /-- `m`: normal or listen-only mode (R155). -/
  | setModeLower (d : Byte)
  /-- `M`: the upper-case spelling of `m` (R156). -/
  | setModeUpper (d : Byte)
  /-- `a`: auto-retransmit off or on (R157). -/
  | setAutoLower (d : Byte)
  /-- `A`: the upper-case spelling of `a` (R158). -/
  | setAutoUpper (d : Byte)
  /-- `V`: version query (R159). -/
  | version
  /-- `t`: queue a standard DATA frame (R160). -/
  | dataStd (id : BitVec 32) (len8 : Byte) (data : Vector Byte Config.dataSlots)
  /-- `T`: queue an extended DATA frame (R161). -/
  | dataExt (id : BitVec 32) (len8 : Byte) (data : Vector Byte Config.dataSlots)
  /-- `r`: queue a standard REMOTE frame (R162). -/
  | remoteStd (id : BitVec 32) (len8 : Byte) (data : Vector Byte Config.dataSlots)
  /-- `R`: queue an extended REMOTE frame (R163). -/
  | remoteExt (id : BitVec 32) (len8 : Byte) (data : Vector Byte Config.dataSlots)
deriving DecidableEq, Repr

end Sys2Proof
end

