-- ==== Sys2Proof/WellFormed.lean ====
section
/-! DEFINITION. Which commands the line format can spell with hex digits: an operand of one digit is below 16, and a standard
identifier has three digits (spec/30_encoding.md R92, R96, R97, R99). A digit the command then finds illegal (`S9`, a length of 9)
is still well-formed: the line exists, and the command fails to parse (R102). -/

namespace Sys2Proof

/-- The value of one hex digit (R93). -/
def digitOk (d : Byte) : Bool := decide (d.toNat < 16)

/-- An identifier that the standard format's nybbles spell, three of them (R96). -/
def stdIdOk (id : BitVec 32) : Bool := decide (id.toNat < 16 ^ Config.idNybbles false)

/-- The operands have a spelling in the command's format (R92). Eight digits spell every 32-bit identifier. -/
def Instr.wellFormed : Instr → Bool
  | .openBus => true
  | .closeBus => true
  | .setBitrate d => digitOk d
  | .setModeLower d => digitOk d
  | .setModeUpper d => digitOk d
  | .setAutoLower d => digitOk d
  | .setAutoUpper d => digitOk d
  | .version => true
  | .dataStd id len8 _ => stdIdOk id && digitOk len8
  | .dataExt _ len8 _ => digitOk len8
  | .remoteStd id len8 _ => stdIdOk id && digitOk len8
  | .remoteExt _ len8 _ => digitOk len8

end Sys2Proof
end

