-- ==== Sys2Proof/Decode.lean ====
section
/-! DEFINITION. The slcan text decoder and the encoder of a command (spec/30_encoding.md). The decoder is total: every line gives a
command or a rejection that names the opcode byte. The hex conversions serve both directions (R93, R108). -/

namespace Sys2Proof

/-! ### Characters and nybbles -/

/-- `hexval(c)` for a hex digit of either case (R93); none for any other byte, where the source defines no result (R94). -/
def hexval (c : Byte) : Option Byte :=
  if 0x30#8 ≤ c ∧ c ≤ 0x39#8 then some (c - 0x30#8)
  else if 0x61#8 ≤ c ∧ c ≤ 0x66#8 then some (c - 0x57#8)
  else if 0x41#8 ≤ c ∧ c ≤ 0x46#8 then some (c - 0x37#8)
  else none

/-- `hexchar(v)`, upper case (R108). -/
def hexchar (v : Nybble) : Byte :=
  if v < 10#4 then 0x30#8 + v.setWidth 8 else 0x37#8 + v.setWidth 8

/-- The in-place conversion of the byte `c` at position `p` of the line dispatched as draw number `n`: its hex value, or a draw
(R94, R95; log 3). -/
def convertChar (n p : Nat) (c : Byte) : Byte := (hexval c).getD (Config.freeByte n p)

/-- The nybble read `nyb(p)` (R95): the converted byte where the line supplied one, a draw where it did not (R64). -/
def nyb (n : Nat) (text : List Byte) (p : Nat) : Byte :=
  match text[p]? with
  | some c => convertChar n p c
  | none => Config.freeByte n p

/-! ### Operand assembly -/

/-- Identifier assembly over `count` positions from position 1, `id <- (id*16 + nyb(p)) mod 2^32` (R96). -/
def assembleId (n : Nat) (text : List Byte) (count : Nat) : BitVec 32 :=
  (List.range' 1 count).foldl (fun id p => id * 16#32 + (nyb n text p).setWidth 32) 0#32

/-- Payload assembly from position `base`: `data[k] <- (nyb(base+2k)*16 + nyb(base+2k+1)) mod 256` for all eight slots (R98). -/
def assembleData (n : Nat) (text : List Byte) (base : Nat) : Vector Byte Config.dataSlots :=
  Vector.ofFn fun k => nyb n text (base + 2 * k.val) * 16#8 + nyb n text (base + 2 * k.val + 1)

/-- The position of the length nybble, after the opcode and the identifier (R92, R97). -/
def lengthPos (ext : Bool) : Nat := 1 + Config.idNybbles ext

/-- The position of the first payload nybble (R92, R98). -/
def dataPos (ext : Bool) : Nat := 2 + Config.idNybbles ext

/-! ### Dispatch on the first character -/

/-- The opcode of a line is its first byte, unconverted (R91, R95); a draw for an empty line (R105). -/
def opcodeByte (n : Nat) (text : List Byte) : Byte := text.headD (Config.freeByte n 0)

/-- Why a line is no command: its opcode byte is none of the twelve (R101, R165). -/
inductive Reject where
  | unknownOpcode (op : Byte)
deriving DecidableEq, Repr

/-- The decoder: one dispatch on the first character, then the fixed positions of the opcode's format (R91, R92, R150). `n` is the
number of the draw this line's unsupplied values come from. Characters after the format's last position are ignored (R104). -/
def decode (n : Nat) (text : List Byte) : Except Reject Instr :=
  match opcodeByte n text with
  | 0x4F#8 => .ok .openBus
  | 0x43#8 => .ok .closeBus
  | 0x53#8 => .ok (.setBitrate (nyb n text 1))
  | 0x6D#8 => .ok (.setModeLower (nyb n text 1))
  | 0x4D#8 => .ok (.setModeUpper (nyb n text 1))
  | 0x61#8 => .ok (.setAutoLower (nyb n text 1))
  | 0x41#8 => .ok (.setAutoUpper (nyb n text 1))
  | 0x56#8 => .ok .version
  | 0x74#8 => .ok (.dataStd (assembleId n text (Config.idNybbles false)) (nyb n text (lengthPos false))
      (assembleData n text (dataPos false)))
  | 0x54#8 => .ok (.dataExt (assembleId n text (Config.idNybbles true)) (nyb n text (lengthPos true))
      (assembleData n text (dataPos true)))
  | 0x72#8 => .ok (.remoteStd (assembleId n text (Config.idNybbles false)) (nyb n text (lengthPos false))
      (assembleData n text (dataPos false)))
  | 0x52#8 => .ok (.remoteExt (assembleId n text (Config.idNybbles true)) (nyb n text (lengthPos true))
      (assembleData n text (dataPos true)))
  | op => .error (.unknownOpcode op)

/-! ### Spelling: the same formats written -/

/-- The last `count` nybbles of an identifier as characters, most significant first (R61, R192). -/
def idChars (count : Nat) (id : BitVec 32) : List Byte :=
  (List.range count).map fun j => hexchar (id.extractLsb' (4 * (count - 1 - j)) 4)

/-- A payload byte as two characters, high nybble first (R62). -/
def byteChars (b : Byte) : List Byte := [hexchar (b.extractLsb' 4 4), hexchar (b.extractLsb' 0 4)]

/-- The sixteen payload characters, slot 0 first (R62, R194). -/
def dataChars (data : Vector Byte Config.dataSlots) : List Byte := data.toList.flatMap byteChars

/-- A one-digit operand as its character. -/
def digitChar (d : Byte) : Byte := hexchar (d.setWidth 4)

/-- The line, without its terminator, of a well-formed command (R92, R109), with upper-case digits. -/
def encode : Instr → List Byte
  | .openBus => [0x4F#8]
  | .closeBus => [0x43#8]
  | .setBitrate d => [0x53#8, digitChar d]
  | .setModeLower d => [0x6D#8, digitChar d]
  | .setModeUpper d => [0x4D#8, digitChar d]
  | .setAutoLower d => [0x61#8, digitChar d]
  | .setAutoUpper d => [0x41#8, digitChar d]
  | .version => [0x56#8]
  | .dataStd id len8 data => 0x74#8 :: (idChars (Config.idNybbles false) id ++ digitChar len8 :: dataChars data)
  | .dataExt id len8 data => 0x54#8 :: (idChars (Config.idNybbles true) id ++ digitChar len8 :: dataChars data)
  | .remoteStd id len8 data => 0x72#8 :: (idChars (Config.idNybbles false) id ++ digitChar len8 :: dataChars data)
  | .remoteExt id len8 data => 0x52#8 :: (idChars (Config.idNybbles true) id ++ digitChar len8 :: dataChars data)

/-! ### A row of the opcode table as a line -/

/-- The bytes of the longest format, 26 (R92). -/
def longestLine : Nat := dataPos true + 2 * Config.dataSlots

/-- The line whose bits are `w`, first byte in bits 7..0: the bytes the table's `nbits` cover, and zero bytes up to the longest
format. -/
def tableLine (nbits w : Nat) : List Byte :=
  (List.range longestLine).map fun k => if 8 * k < nbits then BitVec.ofNat 8 (w >>> (8 * k)) else 0#8

/-- What the decoder reads from an opcode-table row's bits; the operand characters the table gives no bits are zero bytes, which
are no hex digits, so those operands are draws (R94). -/
def decodeTableWord (nbits w : Nat) : Option Instr :=
  match decode 0 (tableLine nbits w) with
  | .ok i => some i
  | .error _ => none

end Sys2Proof
end

