-- ==== Sys2Proof/Machine/Operands.lean ====
section
/-! DEFINITION. What each operand form of the twelve commands means: the digit of format D, the length and the frame of formats FS
and FE (spec/30_encoding.md R96 to R99), and the frame invariant (spec/10_state.md R22). -/

namespace Sys2Proof.Machine

/-- `RATE_TABLE`, selector first, by list position (R8, R126; conflict C1; log 8). -/
def rateTable : List Rate := Config.params.rateTable

/-- `FALLBACK_RATE` (R8, R125). -/
def fallbackRate : Rate := Config.params.fallbackRate

/-- The rate a selector maps to; an invalid selector falls back to 1000000 (R125, R126, D34). -/
def rateOf (sel : Nat) : Rate := if sel < Config.nRates then rateTable.getD sel fallbackRate else fallbackRate

/-- The digit of `S` is legal: `d < NRATES` (R99, R154). -/
def selectorLegal (d : Byte) : Bool := decide (d.toNat < Config.nRates)

/-- The digit of `m`, `M`, `a` and `A` selects the first branch exactly when it equals 1 (R99, D33). -/
def digitIsOne (d : Byte) : Bool := decide (d = 1#8)

/-- The length byte is legal: at most 8, compared as an unsigned byte (R97). -/
def lengthLegal (len8 : Byte) : Bool := decide (len8.toNat ≤ Config.dlcMax)

/-- The frame a frame command builds: `len = len8[3:0]`, everything else as assembled (R97, R164). -/
def commandFrame (ext rtr : Bool) (id : BitVec 32) (len8 : Byte) (data : Vector Byte Config.dataSlots) : Frame :=
  { ext := ext, rtr := rtr, id := id, len := len8.setWidth 4, data := data }

/-- The length part of the frame invariant (R22), which the decoder enforces (R164). -/
def frameLenOk (f : Frame) : Bool := decide (f.len.toNat ≤ Config.dlcMax)

/-- The identifier part of the frame invariant (R22), which the block does not check (R23). -/
def frameIdOk (f : Frame) : Bool := decide (f.id.toNat < 2 ^ Config.idBits f.ext)

/-- The frame invariant (R22). -/
def frameOk (f : Frame) : Bool := frameLenOk f && frameIdOk f

end Sys2Proof.Machine
end

