-- ==== Sys2Proof/Machine/Ops.lean ====
section
/-! DEFINITION. The named operations over the block's storage and ports: the failure mechanism (spec/60_exceptions.md R220), the ring
(spec/10_state.md R31), the line buffer (spec/20_memory.md R60, R64), and the port transactions of spec/10_state.md R42 to R44. -/

namespace Sys2Proof.Machine

/-! ### Failures: the block's whole exception mechanism -/

/-- The five failure classes X1 to X5 (R220). -/
inductive FailureClass where
  /-- X1, a setter called while ON_BUS (R221). -/
  | configRejected
  /-- X2, an enqueue into a full ring (R222). -/
  | queueFull
  /-- X3, a submit the controller rejects (R223). -/
  | hwWriteRejected
  /-- X4, a malformed or unknown command line (R224). -/
  | parseError
  /-- X5, a non-terminator byte that finds the line buffer full (R225). -/
  | lineOverflow
deriving DecidableEq, Repr

/-- `raise X`: record what the class records and nothing more (R220 to R225). There is no trap entry, nothing is saved, no mode
changes and control returns to the invoker (R231), so there is no return operation either (R232). -/
def raise (x : FailureClass) (s : State) : State :=
  match x with
  | .configRejected => s
  | .queueFull => countQueueFull s
  | .hwWriteRejected => countWriteRejected s
  | .parseError => returnFail s
  | .lineOverflow => s

/-! ### The transmit ring -/

/-- The next ring index, `(i + 1) mod N` (R29, R30). -/
def ringNext (i : Fin Config.ringSlots) : Fin Config.ringSlots := i + 1

/-- Empty: `HEAD == TAIL` (R31). -/
def ringEmpty (s : State) : Bool := decide (s.head = s.tail)

/-- Full: `(HEAD + 1) mod N == TAIL` (R31). -/
def ringFull (s : State) : Bool := decide (ringNext s.head = s.tail)

/-- The number of queued frames, `(HEAD - TAIL) mod N` (R31). -/
def occupancy (s : State) : Nat := (s.head - s.tail).val

/-- The queued frames, oldest first: `Q[TAIL], Q[(TAIL+1) mod N], ..., Q[(HEAD-1) mod N]` (R31). -/
def queued (s : State) : List Frame :=
  (List.range (occupancy s)).map fun k => s.q[s.tail + Fin.ofNat Config.ringSlots k]

/-- Copy a frame into `Q[HEAD]` and advance HEAD (R129). -/
def ringPush (f : Frame) (s : State) : State := (s.setQ (s.q.set s.head f)).setHead (ringNext s.head)

/-- Advance TAIL; the slot keeps its frame (R28, R130). -/
def ringPop (s : State) : State := s.setTail (ringNext s.tail)

/-! ### The line buffer -/

/-- The bytes of the current line, `LINE[0..LEN-1]` (R90). -/
def lineBytes (s : State) : List Byte := s.line.toList.take s.len.val

/-- `LINE[p] <- b; LEN <- p + 1` (R202). -/
def storeByte (p : Fin Config.lineCap) (b : Byte) (s : State) : State := (s.setLine (s.line.set p b)).setLen p.succ

/-- The accumulator's index for the next byte: LEN, or 0 when the buffer is full (R202, R203). -/
def nextIndex (s : State) : Fin Config.lineCap :=
  if h : s.len.val < Config.lineCap then ⟨s.len.val, h⟩ else 0

/-- The conversion pass of the decoder: every position `1 <= p < LEN` is converted in place, position 0 never (R95, R150). -/
def convertLine (s : State) : State :=
  s.setLine (Vector.ofFn fun p : Fin Config.lineCap =>
    if 1 ≤ p.val ∧ p.val < s.len.val then convertChar s.draws p.val s.line[p] else s.line[p])

/-- LINE holding the given bytes from index 0 and LEN their number (at most `LINE_CAP`); the other bytes of LINE stay. -/
def loadLine (bytes : List Byte) (s : State) : State :=
  (s.setLine (Vector.ofFn fun p : Fin Config.lineCap => bytes.getD p.val s.line[p])).setLen
    (Fin.ofNat (Config.lineCap + 1) (min bytes.length Config.lineCap))

/-! ### The controller port (R43)

Each transaction is recorded, and writes the controller's registers that R43 says it writes (log 14). -/

/-- `Ctl.apply_timing(t)`. -/
def ctlApplyTiming (t : Config.TimingValues) (s : State) : State :=
  (s.log (.applyTiming t)).setCtl { s.ctl with timing := t }

/-- Issue `Ctl.reset_configure_unfreeze(lom)`; the sequencer now waits for the ready bit (R123). -/
def ctlResetConfigureBegin (lom : Bool) (s : State) : State :=
  (s.log (.resetConfigureUnfreeze lom)).setOpening true

/-- `Ctl.reset_configure_unfreeze(lom)` completes: the mode is configured, the controller is out of freeze mode and enabled. -/
def ctlResetConfigureEnd (lom : Bool) (s : State) : State :=
  (s.setCtl { s.ctl with listenOnly := lom, frozen := false, masked := false }).setOpening false

/-- `Ctl.arm_filter()`, accept-all. -/
def ctlArmFilter (s : State) : State := (s.log .armFilter).setCtl { s.ctl with filterArmed := true }

/-- `Ctl.mask()`. -/
def ctlMask (s : State) : State := (s.log .mask).setCtl { s.ctl with masked := true }

/-- `Ctl.txip()`: read without side effect (R67). -/
def ctlTxip (s : State) : State := s.log (.txip s.ctl.txip)

/-- `Ctl.submit(f)`, answered by the controller; an accepted frame stands in the TX mailbox, a rejected write leaves it
(DEDUCED, log 14). -/
def ctlSubmit (f : Frame) (s : State) : State :=
  if s.ctl.accepts then (s.log (.submit f true)).setCtl { s.ctl with txMailbox := f } else s.log (.submit f false)

/-- `Ctl.fav()`: read without side effect (R67). -/
def ctlFav (s : State) : State := s.log (.fav s.ctl.fav)

/-- `Ctl.rx_read()` returning `f` into RX storage; it locks the internal latch (R67, R133). -/
def ctlRxRead (f : Frame) (s : State) : State :=
  ((s.log (.rxRead f)).setCtl { s.ctl with rxLatch := true }).setRxf f

/-- `Ctl.rx_clear()` clears FAV (R43). -/
def ctlRxClear (s : State) : State := (s.log .rxClear).setCtl { s.ctl with fav := false }

/-! ### The transport and the indicator (R42, R44) -/

/-- `In.avail()`: is there an inbound byte? Recorded with its answer. -/
def inAvail (s : State) : State := s.log (.inAvail (!s.inbound.isEmpty))

/-- `In.pop()` of the oldest byte `b`, the rest of the stream being `rest`. -/
def inPop (b : Byte) (rest : List Byte) (s : State) : State := (s.log (.inPop b)).setInbound rest

/-- `Out.write(bytes)`: append the whole line and flush; it always accepts (R44, D27; log 19). -/
def outWrite (bytes : List Byte) (s : State) : State := (s.log (.outWrite bytes)).appendOut bytes

/-- `Ind.bus_up()`. -/
def indBusUp (s : State) : State := s.log .busUp

/-- `Ind.bus_down()`. -/
def indBusDown (s : State) : State := s.log .busDown

end Sys2Proof.Machine
end

