-- ==== Sys2Proof/Machine/Driver.lean ====
section
/-! DEFINITION. The ten operations of the controller driver but for `initialize`, which is `State.reset`
(spec/40_controller_driver.md R120 to R134). -/

namespace Sys2Proof.Machine

/-! ### Bus state machine -/

/-- `enable()` up to its wait: the bit timing, then the reset/configure/unfreeze sequence is issued (R121, R122). -/
def enableBegin (s : State) : State := ctlResetConfigureBegin s.lom (ctlApplyTiming (Config.timing s.rate) s)

/-- `enable()` once the controller reports ready: the filter, then the bus state, then the indicator (R121, R122). -/
def enableFinish (s : State) : State := indBusUp ((ctlArmFilter (ctlResetConfigureEnd s.lom s)).setBus .onBus)

/-- One look at the ready bit inside `reset_configure_unfreeze`: go on when it is set, wait on when it is not; there is no timeout
(R123, D18; log 4). -/
def enableWait (s : State) : State := if s.ctl.ready then enableFinish s else s

/-- `enable()`: a no-op unless OFF_BUS (R121). -/
def enable (s : State) : State :=
  match s.bus with
  | .onBus => s
  | .offBus => enableWait (enableBegin s)

/-- `disable()`: a no-op unless ON_BUS; the ring is not flushed (R124, D22; log 18). -/
def disable (s : State) : State :=
  match s.bus with
  | .offBus => s
  | .onBus => indBusDown ((ctlMask s).setBus .offBus)

/-! ### Configuration setters -/

/-- `set_bitrate(sel)` for any natural selector (R125). -/
def setBitrate (sel : Nat) (s : State) : State :=
  match s.bus with
  | .onBus => raise .configRejected s
  | .offBus => s.setRate (rateOf sel)

/-- `set_listen_only(b)` (R127). -/
def setListenOnly (b : Bool) (s : State) : State :=
  match s.bus with
  | .onBus => raise .configRejected s
  | .offBus => s.setLom b

/-- `set_autoretransmit(b)`: a stored bit that nothing reads (R128). -/
def setAutoretransmit (b : Bool) (s : State) : State :=
  match s.bus with
  | .onBus => raise .configRejected s
  | .offBus => s.setArt b

/-! ### Transmit queue and dispatcher -/

/-- `transmit_enqueue(f)`: QueueFull when no slot is free, else the frame is copied in; not gated by BUS or LOM (R129, D23). -/
def transmitEnqueue (f : Frame) (s : State) : State := if ringFull s then raise .queueFull s else ringPush f s

/-- A frame already popped is submitted; a rejected submit drops it (R130, R223). -/
def submitPopped (f : Frame) (s : State) : State :=
  if s.ctl.accepts then ctlSubmit f s else raise .hwWriteRejected (ctlSubmit f s)

/-- `service_transmit()`: at most one frame leaves the ring, popped before it is submitted; not gated by BUS or LOM (R130, R131). -/
def serviceTransmit (s : State) : State :=
  if ringEmpty s then s
  else if s.ctl.txip then ctlTxip s
  else submitPopped s.q[s.tail] (ringPop (ctlTxip s))

/-! ### Receive path -/

/-- `receive_pending()`'s answer: false while OFF_BUS, else FAV (R132). -/
def receivePending (s : State) : Bool :=
  match s.bus with
  | .offBus => false
  | .onBus => s.ctl.fav

/-- `receive_pending()`'s port transaction: `Ctl.fav()` is consulted only while ON_BUS (R132). -/
def consultPending (s : State) : State :=
  match s.bus with
  | .offBus => s
  | .onBus => ctlFav s

/-- The frame `Ctl.rx_read()` returns: the FIFO output mailbox when a frame is pending, a drawn frame when the drain is spurious
(R133, R134; log 13). -/
def drainedFrame (s : State) : Frame := if receivePending s then s.ctl.rxMailbox else Config.freeFrame s.draws

/-- `receive_drain()`: read one frame into RXF and clear FAV, called spuriously or not (R133, R134). -/
def receiveDrain (s : State) : State :=
  if receivePending s then ctlRxClear (ctlRxRead (drainedFrame s) s)
  else ctlRxClear (ctlRxRead (drainedFrame s) s.nextDraw)

end Sys2Proof.Machine
end

