-- ==== Sys2Proof/Machine/Control.lean ====
section
/-! DEFINITION. The meanings of the control commands `O C S m M a A V` (spec/41_codec_decode.md R152 to R159). -/

namespace Sys2Proof.Machine

/-- The status an `O` returns, once it returns: while `enable()` waits, nothing is returned yet (R123, R150; log 4). -/
def openReturn (s : State) : State := if s.opening then s else returnOk s

/-- `O`: `enable(); return STATUS_OK` (R152). -/
def execOpenBus (s : State) : Host.Outcome State Fault Refusal := .next (openReturn (enable s))

/-- `C`: `disable(); return STATUS_OK` (R153). -/
def execCloseBus (s : State) : Host.Outcome State Fault Refusal := .next (returnOk (disable s))

/-- `S`: an illegal selector is a parse failure, before the bus state is looked at (R154, R228). -/
def execSetBitrate (d : Byte) (s : State) : Host.Outcome State Fault Refusal :=
  .next (if selectorLegal d then returnOk (setBitrate d.toNat s) else raise .parseError s)

/-- `m`: `set_listen_only(d == 1); return STATUS_OK` (R155). -/
def execSetModeLower (d : Byte) (s : State) : Host.Outcome State Fault Refusal :=
  .next (returnOk (setListenOnly (digitIsOne d) s))

/-- `M`: identical to `m` (R156). -/
def execSetModeUpper (d : Byte) (s : State) : Host.Outcome State Fault Refusal :=
  .next (returnOk (setListenOnly (digitIsOne d) s))

/-- `a`: `set_autoretransmit(d == 1); return STATUS_OK` (R157). -/
def execSetAutoLower (d : Byte) (s : State) : Host.Outcome State Fault Refusal :=
  .next (returnOk (setAutoretransmit (digitIsOne d) s))

/-- `A`: identical to `a` (R158). -/
def execSetAutoUpper (d : Byte) (s : State) : Host.Outcome State Fault Refusal :=
  .next (returnOk (setAutoretransmit (digitIsOne d) s))

/-- `V`: success without emitting a line (R103, R159). -/
def execVersion (s : State) : Host.Outcome State Fault Refusal := .next (returnOk s)

end Sys2Proof.Machine
end

