-- ==== Sys2Proof/Machine/Frames.lean ====
section
/-! DEFINITION. The meanings of the frame commands `t T r R` (spec/41_codec_decode.md R160 to R164). -/

namespace Sys2Proof.Machine

/-- A parsed frame is handed to `transmit_enqueue`, and the command returns OK, or the drawn status when the ring is full (R164,
D15). -/
def queueFrame (f : Frame) (s : State) : State :=
  if ringFull s then returnOnQueueFull (transmitEnqueue f s) else returnOk (transmitEnqueue f s)

/-- `ParseFrame(ext, rtr)` after assembly: ParseError exactly when the length exceeds 8, before the enqueue; the command does not
look at BUS or LOM (R164, R228). -/
def parseFrame (ext rtr : Bool) (id : BitVec 32) (len8 : Byte) (data : Vector Byte Config.dataSlots) (s : State) : State :=
  if lengthLegal len8 then queueFrame (commandFrame ext rtr id len8 data) s else raise .parseError s

/-- `t`: queue a standard DATA frame (R160). -/
def execDataStd (id : BitVec 32) (len8 : Byte) (data : Vector Byte Config.dataSlots) (s : State) : Host.Outcome State Fault Refusal :=
  .next (parseFrame false false id len8 data s)

/-- `T`: queue an extended DATA frame (R161). -/
def execDataExt (id : BitVec 32) (len8 : Byte) (data : Vector Byte Config.dataSlots) (s : State) : Host.Outcome State Fault Refusal :=
  .next (parseFrame true false id len8 data s)

/-- `r`: queue a standard REMOTE frame (R162). -/
def execRemoteStd (id : BitVec 32) (len8 : Byte) (data : Vector Byte Config.dataSlots) (s : State) : Host.Outcome State Fault Refusal :=
  .next (parseFrame false true id len8 data s)

/-- `R`: queue an extended REMOTE frame (R163). -/
def execRemoteExt (id : BitVec 32) (len8 : Byte) (data : Vector Byte Config.dataSlots) (s : State) : Host.Outcome State Fault Refusal :=
  .next (parseFrame true true id len8 data s)

end Sys2Proof.Machine
end

