-- ==== Sys2Proof/Machine/Dispatch.lean ====
section
/-! DEFINITION. The one dispatch from a decoded command to its meaning (spec/41_codec_decode.md R150, R166). -/

namespace Sys2Proof.Machine

def exec (i : Instr) (s : State) : Host.Outcome State Fault Refusal :=
  match i with
  -- control commands
  | .openBus => Sys2Proof.Machine.execOpenBus s
  | .closeBus => Sys2Proof.Machine.execCloseBus s
  | .setBitrate d => Sys2Proof.Machine.execSetBitrate d s
  | .setModeLower d => Sys2Proof.Machine.execSetModeLower d s
  | .setModeUpper d => Sys2Proof.Machine.execSetModeUpper d s
  | .setAutoLower d => Sys2Proof.Machine.execSetAutoLower d s
  | .setAutoUpper d => Sys2Proof.Machine.execSetAutoUpper d s
  | .version => Sys2Proof.Machine.execVersion s
  -- frame commands
  | .dataStd id len8 data => Sys2Proof.Machine.execDataStd id len8 data s
  | .dataExt id len8 data => Sys2Proof.Machine.execDataExt id len8 data s
  | .remoteStd id len8 data => Sys2Proof.Machine.execRemoteStd id len8 data s
  | .remoteExt id len8 data => Sys2Proof.Machine.execRemoteExt id len8 data s

end Sys2Proof.Machine
end

