-- ==== Sys2Proof/Machine/Encoder.lean ====
section
/-! DEFINITION. The slcan encoder: one received frame to one outbound line (spec/42_codec_encode.md R190 to R197,
spec/30_encoding.md R107). -/

namespace Sys2Proof.Machine

/-- The type character (R191). -/
def typechar (f : Frame) : Byte :=
  match f.ext, f.rtr with
  | false, false => 0x74#8
  | true, false => 0x54#8
  | false, true => 0x72#8
  | true, true => 0x52#8

/-- The identifier characters, 3 or 8 of them (R192). -/
def frameIdChars (f : Frame) : List Byte := idChars (Config.idNybbles f.ext) f.id

/-- The line of a frame without its terminator: type, identifier, length, all eight payload slots (R191 to R194). -/
def frameText (f : Frame) : List Byte := typechar f :: (frameIdChars f ++ hexchar f.len :: dataChars f.data)

/-- The whole outbound line, terminator included (R107, R195). -/
def outboundLine (f : Frame) : List Byte := frameText f ++ [Config.term]

/-- `encode(f)`: the line and its count, or a refusal of a frame with `len > 8` (R190, R196, R197; log 12). -/
def encodeFrame (f : Frame) : Except Refusal (List Byte × Int) :=
  if frameLenOk f then .ok (outboundLine f, (outboundLine f).length) else .error .receivedLengthAbove8

end Sys2Proof.Machine
end

