-- ==== Sys2Proof/Machine/Environment.lean ====
section
/-! DEFINITION. What the environment does between two steps of the sequencer: the controller changes, the host makes bytes
available, the tick interrupt comes (spec/00_scope.md R7, spec/20_memory.md R71, spec/60_exceptions.md R229, R230; log 2). -/

namespace Sys2Proof.Machine

/-- The environment's next move: the first scheduled one, or a free one. -/
def envNext (s : State) : EnvMove :=
  match s.schedule with
  | m :: _ => m
  | [] => Config.envMove s.envSteps

/-- The move is used up. -/
def envConsume (s : State) : State :=
  match s.schedule with
  | _ :: ms => { s with schedule := ms }
  | [] => { s with envSteps := s.envSteps + 1 }

/-- The tick interrupt, coming `n` times: its service adds to the tick and touches nothing else, and it is not served while IM = 1
(R229, R230; log 15). -/
def serviceTick (n : Nat) (s : State) : State := if s.im then s else { s with tick := s.tick + n }

/-- One move of the environment: it writes no register of the block (R7, R46). -/
def envStep (s : State) : State :=
  serviceTick (envNext s).ticks { envConsume s with ctl := (envNext s).ctl, inbound := s.inbound ++ (envNext s).bytes }

end Sys2Proof.Machine
end

