-- ==== Sys2Proof/Machine/Sequencer.lean ====
section
/-! DEFINITION. The poll iteration P1, P2, P3, P4 and the line accumulator (spec/43_poll_loop.md R200 to R211). -/

namespace Sys2Proof.Machine

/-! ### The line accumulator -/

/-- After a dispatch the line buffer is reset, whatever the decoder returned (R202); an `O` that still waits has not returned
(R123). -/
def resetLine (s : State) : State := s.setLen (if s.opening then s.len else 0)

/-- `decode()`'s conversion pass; the draws of this line are used up (R95, R150; log 3). -/
def beginDecode (s : State) : State := (convertLine s).nextDraw

/-- The command the current line holds, or why it is none (R150, R166). -/
def decodeLine (s : State) : Except Reject Instr := decode s.draws (lineBytes s)

/-- The next state where there is one: the accumulator's reset after the decoder (R202). -/
def thenResetLine : Host.Outcome State Fault Refusal → Host.Outcome State Fault Refusal
  | .next t => .next (resetLine t)
  | .fault r => .fault r
  | .refused r => .refused r

/-- A terminator: the accumulated line is decoded and executed to completion, and the buffer is reset; an unknown opcode is a parse
failure (R150, R165, R202). -/
def dispatchLine (s : State) : Host.Outcome State Fault Refusal :=
  match decodeLine s with
  | .ok i => thenResetLine (exec i (beginDecode s))
  | .error _ => .next (resetLine (raise .parseError (beginDecode s)))

/-- A byte that is no terminator: stored at LEN, or at 0 after an overflow (R202, R203, R225; log 17). -/
def appendByte (b : Byte) (s : State) : State :=
  if s.len.val < Config.lineCap then storeByte (nextIndex s) b s
  else storeByte (nextIndex s) b ((raise .lineOverflow s).setLen 0)

/-- `accumulate(b)` (R202). -/
def accumulate (b : Byte) (s : State) : Host.Outcome State Fault Refusal :=
  if b = Config.term then dispatchLine s else .next (appendByte b s)

/-! ### The four steps -/

/-- P1 ends when `In.avail()` answers false: the mask is lifted and P2 follows (R201, R209, R210). -/
def endInput (s : State) : State := (s.setIm false).setPh .p2Led

/-- The next inbound byte of P1, or its end; the tick stays masked inside (R201, R209). -/
def drainInput (s : State) : Host.Outcome State Fault Refusal :=
  match s.inbound with
  | [] => .next (endInput (inAvail s))
  | b :: rest => accumulate b (inPop b rest (inAvail s))

/-- P1, one byte at a time; while `enable()` waits, one more look at the ready bit instead (R123, R201; log 1, log 4). -/
def stepInput (s : State) : Host.Outcome State Fault Refusal :=
  if s.opening then .next (resetLine (openReturn (enableWait s))) else drainInput (s.setIm true)

/-- P2: the LED service changes no register of the block (R204, D26). -/
def stepLed (s : State) : State := s.setPh .p3TxSvc

/-- P3: the transmit service, once (R205). -/
def stepTransmit (s : State) : State := (serviceTransmit s).setPh .p4RxSvc

/-- The encoded line is written when its count is positive (R206, R207). -/
def writeEncoded (out : List Byte) (count : Int) (s : State) : State := if 0 < count then outWrite out s else s

/-- P4: at most one pending frame is drained, encoded and written; a drained frame with `len > 8` has no meaning (R206, R197). -/
def stepReceive (s : State) : Host.Outcome State Fault Refusal :=
  if receivePending s then
    match encodeFrame (drainedFrame s) with
    | .ok (out, count) => .next ((writeEncoded out count (receiveDrain (consultPending s))).setPh .p1Input)
    | .error r => .refused r
  else .next ((consultPending s).setPh .p1Input)

/-- One step of the sequencer, in the fixed cyclic order P1, P2, P3, P4 (R36, R200). -/
def sequencerStep (s : State) : Host.Outcome State Fault Refusal :=
  match s.ph with
  | .p1Input => stepInput s
  | .p2Led => .next (stepLed s)
  | .p3TxSvc => .next (stepTransmit s)
  | .p4RxSvc => stepReceive s

/-- The environment moves after the sequencer's step (R71; log 2). -/
def thenEnvStep : Host.Outcome State Fault Refusal → Host.Outcome State Fault Refusal
  | .next t => .next (envStep t)
  | .fault r => .fault r
  | .refused r => .refused r

/-- A command line standing in LINE with its terminator the next inbound byte, the sequencer in P1. -/
def placeLine (bytes : List Byte) (s : State) : State :=
  ((((loadLine bytes s).setInbound (Config.term :: s.inbound)).setPh .p1Input).setOpening false)

end Sys2Proof.Machine
end

