-- ==== Sys2Proof/Machine/Step.lean ====
section
/-! DEFINITION. One step of the machine: the sequencer's, then the environment's (spec/00_scope.md R7, spec/43_poll_loop.md R200). -/

namespace Sys2Proof.Machine

/-- One step of CANABLE-MBX. -/
def step (s : State) : Host.Outcome State Fault Refusal := thenEnvStep (sequencerStep s)

/-- `s` about to take the terminator of the line an opcode-table row's bits spell, so that the next step runs that command (log 21). -/
def State.withFetchWord (s : State) (nbits w : Nat) : State := placeLine (tableLine nbits w) s

end Sys2Proof.Machine
end

