-- ==== Sys2Proof/Safety.lean ====
section
/-! DEFINITION. The terms claims are made in: the state invariant, what the record of port transactions says, the configuration
snapshot, and when two states differ in unreadable bytes only. -/

namespace Sys2Proof.Machine

/-- `k` steps, stopping at the first stop; the host's `Host.Core.run` of this machine. -/
def run : Nat → State → Host.Outcome State Fault Refusal
  | 0, s => .next s
  | k + 1, s =>
    match step s with
    | .next t => run k t
    | .fault r => .fault r
    | .refused r => .refused r

/-- The sequencer's step answers `t`, and the whole step is then the environment's move on `t`. The environment may replace the
controller's record at once (log 2), so what a transaction writes there is said of `t`. -/
def StepsThrough (s t : State) : Prop := sequencerStep s = .next t ∧ step s = .next (envStep t)

/-- The frame command of each frame kind: `t`, `T`, `r`, `R` (R160 to R163). -/
def frameCommand (ext rtr : Bool) (id : BitVec 32) (len8 : Byte) (data : Vector Byte Config.dataSlots) : Instr :=
  match ext, rtr with
  | false, false => .dataStd id len8 data
  | true, false => .dataExt id len8 data
  | false, true => .remoteStd id len8 data
  | true, true => .remoteExt id len8 data

/-- The invariant of every state the sequencer stands in between two steps: no slot of the ring holds a length above 8 (R22, R164),
RATE is an entry of the table (R25), the tick is masked only inside P1 (R209), and the sequencer waits for the controller only
inside P1, masked and with the bus not yet ON (R121, R123, R209). -/
structure Inv (s : State) : Prop where
  slots : ∀ i : Fin Config.ringSlots, frameLenOk s.q[i] = true
  rate : ∃ sel, sel < Config.nRates ∧ s.rate = rateOf sel
  masked : s.im = true → s.ph = .p1Input
  waiting : s.opening = true → s.ph = .p1Input ∧ s.im = true ∧ s.bus = .offBus

/-- What one transaction tells the indicator (R42). -/
def indicate (b : BusState) : PortEvent → BusState
  | .busUp => .onBus
  | .busDown => .offBus
  | _ => b

/-- The bus state the indicator events tell, starting OFF (R42). -/
def indicatedBus (tr : List PortEvent) : BusState := tr.foldl indicate .offBus

/-- The frames submitted to the TX mailbox, oldest first (R130). -/
def submitted (tr : List PortEvent) : List Frame :=
  tr.filterMap fun e => match e with
    | .submit f _ => some f
    | _ => none

/-- How many submits were answered `rejected` (R130). -/
def rejections (tr : List PortEvent) : Nat :=
  tr.countP fun e => match e with
    | .submit _ false => true
    | _ => false

/-- The bytes written to the transport, oldest first (R44). -/
def written (tr : List PortEvent) : List Byte :=
  tr.flatMap fun e => match e with
    | .outWrite bytes => bytes
    | _ => []

/-- What the record of port transactions says of the registers: the indicator tells BUS, TXFAIL_CNT counts the rejected submits,
the outbound stream is what was written, every frame submitted has a legal length, and every line written is a whole line of 22 or
27 bytes that ends in the terminator (R38, R42, R44, R195). -/
structure TraceInv (s : State) : Prop where
  bus : indicatedBus s.trace = s.bus
  txfail : s.txfailCnt = rejections s.trace
  out : s.outbound = written s.trace
  submits : ∀ f ok, PortEvent.submit f ok ∈ s.trace → frameLenOk f = true
  lines : ∀ bytes, PortEvent.outWrite bytes ∈ s.trace →
    (bytes.length = 22 ∨ bytes.length = 27) ∧ bytes.getLast? = some Config.term

/-- The configuration snapshot: RATE, LOM and ART (R24, R234). -/
def config (s : State) : Rate × Bool × Bool := (s.rate, s.lom, s.art)

/-- The state after the next phase of the cycle P1, P2, P3, P4 (R36). -/
def Phase.succ : Phase → Phase
  | .p1Input => .p2Led
  | .p2Led => .p3TxSvc
  | .p3TxSvc => .p4RxSvc
  | .p4RxSvc => .p1Input

/-- The two states are equal but for bytes of LINE at or beyond LEN, which the block never reads as such (R64). -/
def SameButStaleLine (s t : State) : Prop := t = s.setLine t.line ∧ lineBytes t = lineBytes s

/-- Lower case of an upper-case hex letter; every other byte is itself (R93). -/
def lowerHex (c : Byte) : Byte := if 0x41#8 ≤ c ∧ c ≤ 0x46#8 then c + 0x20#8 else c

/-- The twelve opcode bytes (R100). -/
def opcodes : List Byte :=
  [0x4F#8, 0x43#8, 0x53#8, 0x6D#8, 0x4D#8, 0x61#8, 0x41#8, 0x56#8, 0x74#8, 0x54#8, 0x72#8, 0x52#8]

end Sys2Proof.Machine
end

