-- ==== Sys2Proof/Certificates/Slice0/Obligations.lean ====
section
/-! DEFINITION. The statements for the provers, from the numbered rules of spec/. An instruction's result is stated as the whole next
state, so its frame is stated with it: a field that is not named after `with` is unchanged. -/

open Sys2Proof Sys2Proof.Machine

/-! ### Control commands -/

/-- R152, R121, R122: `O` with the bus closed and the controller ready runs the whole sequence in order and opens the bus (what
the transactions write in the controller is the model's reading, log 14). -/
def Obligations.OpenRunsTheEnableSequence : Prop :=
  ∀ s : State, s.bus = .offBus → s.ctl.ready = true →
    exec .openBus s = .next { s with
      bus := .onBus
      decStatus := .ok
      opening := false
      ctl := { s.ctl with
        timing := Config.timing s.rate, listenOnly := s.lom, frozen := false, masked := false, filterArmed := true }
      trace := s.trace ++ [.applyTiming (Config.timing s.rate), .resetConfigureUnfreeze s.lom, .armFilter, .busUp] }

/-- R123: `O` with a controller that is not ready has issued the timing and the reset/configure/unfreeze sequence and waits inside
the latter; the bus is not open and no status is returned (that a wait is a next state with `opening` set is
log 4's choice; what the transactions write in the controller is log 14's). -/
def Obligations.OpenWaitsForTheController : Prop :=
  ∀ s : State, s.bus = .offBus → s.ctl.ready = false →
    exec .openBus s = .next { s with
      opening := true
      ctl := { s.ctl with timing := Config.timing s.rate }
      trace := s.trace ++ [.applyTiming (Config.timing s.rate), .resetConfigureUnfreeze s.lom] }

/-- R152, R121: `O` with the bus open is a plain no-op that returns OK. -/
def Obligations.OpenWhileOpenIsNoOp : Prop :=
  ∀ s : State, s.bus = .onBus → s.opening = false → exec .openBus s = .next { s with decStatus := .ok }

/-- R153, R124: `C`, byte 0x43, masks the controller and closes the bus without flushing the ring; it is a no-op on a closed bus. That
the ring is not flushed is the spec's own decision D22 (log 18); what `mask()` writes in the controller is the model's reading
(log 14). -/
def Obligations.CloseMasksAndKeepsTheRing : Prop :=
  (∀ n rest, decode n (0x43#8 :: rest) = .ok .closeBus) ∧
  (∀ s : State, s.bus = .onBus →
    exec .closeBus s = .next { s with
      bus := .offBus
      decStatus := .ok
      ctl := { s.ctl with masked := true }
      trace := s.trace ++ [.mask, .busDown] }) ∧
  (∀ s : State, s.bus = .offBus → exec .closeBus s = .next { s with decStatus := .ok })

/-- R154: `S`, byte 0x53, checks its digit first, then sets the table's rate while the bus is closed, and is silently rejected while
it is open. The pairing of selector and rate is the spec's own decision D4 (log 8). -/
def Obligations.SetBitrateChecksThenSets : Prop :=
  (∀ n rest, decode n (0x53#8 :: rest) = .ok (.setBitrate (nyb n (0x53#8 :: rest) 1))) ∧
  (∀ (d : Byte) (s : State), 9 ≤ d.toNat → exec (.setBitrate d) s = .next { s with decStatus := .fail }) ∧
  (∀ (d : Byte) (s : State) (h : d.toNat < 9), s.bus = .offBus →
    exec (.setBitrate d) s = .next { s with
      rate := (#v[10000#20, 20000#20, 50000#20, 100000#20, 125000#20, 250000#20, 500000#20, 750000#20,
        1000000#20] : Vector Rate 9)[d.toNat]
      decStatus := .ok }) ∧
  (∀ (d : Byte) (s : State), d.toNat < 9 → s.bus = .onBus →
    exec (.setBitrate d) s = .next { s with decStatus := .ok })

/-- R155, R156: `m` (0x6D) and `M` (0x4D) select listen-only exactly when the digit is 1, while the bus is closed; while it is open
they are silently rejected; the status is OK in every case. -/
def Obligations.SetModeWritesListenOnly : Prop :=
  (∀ n rest, decode n (0x6D#8 :: rest) = .ok (.setModeLower (nyb n (0x6D#8 :: rest) 1))) ∧
  (∀ n rest, decode n (0x4D#8 :: rest) = .ok (.setModeUpper (nyb n (0x4D#8 :: rest) 1))) ∧
  (∀ (d : Byte) (s : State), s.bus = .offBus →
    exec (.setModeLower d) s = .next { s with lom := decide (d = 1#8), decStatus := .ok } ∧
    exec (.setModeUpper d) s = .next { s with lom := decide (d = 1#8), decStatus := .ok }) ∧
  (∀ (d : Byte) (s : State), s.bus = .onBus →
    exec (.setModeLower d) s = .next { s with decStatus := .ok } ∧
    exec (.setModeUpper d) s = .next { s with decStatus := .ok })

/-- R157, R158: `a` (0x61) and `A` (0x41) write ART and nothing else but the status, while the bus is closed; while it is open they
are silently rejected; the status is OK in every case. -/
def Obligations.SetAutoretransmitWritesOnlyArt : Prop :=
  (∀ n rest, decode n (0x61#8 :: rest) = .ok (.setAutoLower (nyb n (0x61#8 :: rest) 1))) ∧
  (∀ n rest, decode n (0x41#8 :: rest) = .ok (.setAutoUpper (nyb n (0x41#8 :: rest) 1))) ∧
  (∀ (d : Byte) (s : State), s.bus = .offBus →
    exec (.setAutoLower d) s = .next { s with art := decide (d = 1#8), decStatus := .ok } ∧
    exec (.setAutoUpper d) s = .next { s with art := decide (d = 1#8), decStatus := .ok }) ∧
  (∀ (d : Byte) (s : State), s.bus = .onBus →
    exec (.setAutoLower d) s = .next { s with decStatus := .ok } ∧
    exec (.setAutoUpper d) s = .next { s with decStatus := .ok })

/-- R159: `V`, byte 0x56, returns OK and changes nothing else, in both bus states. -/
def Obligations.VersionOnlyReturnsOk : Prop :=
  (∀ n rest, decode n (0x56#8 :: rest) = .ok .version) ∧
  (∀ s : State, exec .version s = .next { s with decStatus := .ok })

/-! ### Frame commands -/

/-- R160 to R164: with a legal length and a free slot, each frame command copies its frame, all eight payload slots and the
unchecked identifier, into `Q[HEAD]`, advances HEAD mod 28 and returns OK, whatever BUS and LOM are (the spec's own decisions D5 and
D23, log 27 and log 18). -/
def Obligations.FrameCommandsEnqueue : Prop :=
  ∀ (id : BitVec 32) (len8 : Byte) (data : Vector Byte 8) (s : State),
    len8.toNat ≤ 8 → (s.head.val + 1) % 28 ≠ s.tail.val →
    let after (ext rtr : Bool) : Host.Outcome State Fault Refusal := .next { s with
      q := s.q.set s.head ⟨ext, rtr, id, len8.setWidth 4, data⟩
      head := Fin.ofNat 28 (s.head.val + 1)
      decStatus := .ok }
    exec (.dataStd id len8 data) s = after false false ∧
    exec (.dataExt id len8 data) s = after true false ∧
    exec (.remoteStd id len8 data) s = after false true ∧
    exec (.remoteExt id len8 data) s = after true true

/-- R164, R97, R228: a length above 8 is a parse failure, whether or not the ring is full: the status, and nothing else. -/
def Obligations.FrameCommandsRejectLongLengths : Prop :=
  ∀ (id : BitVec 32) (len8 : Byte) (data : Vector Byte 8) (s : State), 8 < len8.toNat →
    exec (.dataStd id len8 data) s = .next { s with decStatus := .fail } ∧
    exec (.dataExt id len8 data) s = .next { s with decStatus := .fail } ∧
    exec (.remoteStd id len8 data) s = .next { s with decStatus := .fail } ∧
    exec (.remoteExt id len8 data) s = .next { s with decStatus := .fail }

/-- R222, R164: with the ring full, each frame command with a legal length loses its frame, counts one Queue-full event and leaves
the ring alone; the status returned is one of the two, and which is not stated (D15, log 11). -/
def Obligations.FrameCommandsOnFullRingCount : Prop :=
  ∀ (id : BitVec 32) (len8 : Byte) (data : Vector Byte 8) (s : State),
    len8.toNat ≤ 8 → (s.head.val + 1) % 28 = s.tail.val →
    ∃ st : Status,
      let after : Host.Outcome State Fault Refusal :=
        .next { s with qfullCnt := s.qfullCnt + 1, decStatus := st, draws := s.draws + 1 }
      exec (.dataStd id len8 data) s = after ∧
      exec (.dataExt id len8 data) s = after ∧
      exec (.remoteStd id len8 data) s = after ∧
      exec (.remoteExt id len8 data) s = after

/-! ### Decoding and encoding -/

/-- R93: the hex value of a digit of either case, and of no other byte (R94). -/
def Obligations.HexvalOfEveryByte : Prop :=
  ∀ c : Byte,
    (0x30 ≤ c.toNat ∧ c.toNat ≤ 0x39 → hexval c = some (BitVec.ofNat 8 (c.toNat - 0x30))) ∧
    (0x61 ≤ c.toNat ∧ c.toNat ≤ 0x66 → hexval c = some (BitVec.ofNat 8 (c.toNat - 0x61 + 10))) ∧
    (0x41 ≤ c.toNat ∧ c.toNat ≤ 0x46 → hexval c = some (BitVec.ofNat 8 (c.toNat - 0x41 + 10))) ∧
    (¬(0x30 ≤ c.toNat ∧ c.toNat ≤ 0x39) → ¬(0x61 ≤ c.toNat ∧ c.toNat ≤ 0x66) →
      ¬(0x41 ≤ c.toNat ∧ c.toNat ≤ 0x46) → hexval c = none)

/-- R108: the upper-case character of a nybble. -/
def Obligations.HexcharIsUpperCase : Prop :=
  (∀ v : Nybble, v.toNat < 10 → hexchar v = BitVec.ofNat 8 (0x30 + v.toNat)) ∧
  (∀ v : Nybble, 10 ≤ v.toNat → hexchar v = BitVec.ofNat 8 (0x37 + v.toNat))

/-- R96: three true hex digits after the opcode assemble to `i2*256 + i1*16 + i0`. -/
def Obligations.StandardIdentifierAssembly : Prop :=
  ∀ (n : Nat) (op c2 c1 c0 i2 i1 i0 : Byte) (rest : List Byte),
    hexval c2 = some i2 → hexval c1 = some i1 → hexval c0 = some i0 →
    (assembleId n (op :: c2 :: c1 :: c0 :: rest) 3).toNat = i2.toNat * 256 + i1.toNat * 16 + i0.toNat

/-- R92, R94 to R98, R105, R164 (d), R253: a frame line of any length and content is read at the fixed positions of its format: a
supplied hex digit gives its value, any other supplied byte and every position the line does not supply a draw (log 3), and each
identifier nybble enters as `id*16 + nyb` mod 2^32 (D7, log 27). -/
def Obligations.FrameLinesAreReadByPosition : Prop :=
  (∀ (n : Nat) (rest : List Byte),
    decode n (0x74#8 :: rest) =
      .ok (.dataStd (assembleId n (0x74#8 :: rest) 3) (nyb n (0x74#8 :: rest) 4) (assembleData n (0x74#8 :: rest) 5)) ∧
    decode n (0x54#8 :: rest) =
      .ok (.dataExt (assembleId n (0x54#8 :: rest) 8) (nyb n (0x54#8 :: rest) 9) (assembleData n (0x54#8 :: rest) 10)) ∧
    decode n (0x72#8 :: rest) =
      .ok (.remoteStd (assembleId n (0x72#8 :: rest) 3) (nyb n (0x72#8 :: rest) 4) (assembleData n (0x72#8 :: rest) 5)) ∧
    decode n (0x52#8 :: rest) =
      .ok (.remoteExt (assembleId n (0x52#8 :: rest) 8) (nyb n (0x52#8 :: rest) 9) (assembleData n (0x52#8 :: rest) 10))) ∧
  (∀ (n : Nat) (text : List Byte) (count : Nat),
    assembleId n text 0 = 0#32 ∧
    (assembleId n text (count + 1)).toNat =
      ((assembleId n text count).toNat * 16 + (nyb n text (count + 1)).toNat) % 2 ^ 32) ∧
  (∀ (n : Nat) (text : List Byte) (p : Nat),
    (∀ c v, text[p]? = some c → hexval c = some v → nyb n text p = v) ∧
    (∀ c, text[p]? = some c → hexval c = none → nyb n text p = Config.freeByte n p) ∧
    (text.length ≤ p → nyb n text p = Config.freeByte n p))

/-- R98: for all eight slots, whatever the length, `data[k]` is 16 times the nybble read at `base + 2k` plus the one at
`base + 2k + 1`, mod 256. -/
def Obligations.PayloadAssembly : Prop :=
  ∀ (n : Nat) (text : List Byte) (base : Nat) (k : Fin 8),
    ((assembleData n text base)[k]).toNat =
      ((nyb n text (base + 2 * k.val)).toNat * 16 + (nyb n text (base + 2 * k.val + 1)).toNat) % 256

/-- R166, R101, R105: the decoder is total; a line whose opcode byte (the first byte, a draw when the line is empty) is outside the
twelve is rejected by name, and one whose opcode byte is among them never is. -/
def Obligations.DecoderRejectsExactlyUnknownOpcodes : Prop :=
  ∀ (n : Nat) (text : List Byte),
    (opcodeByte n text ∉ opcodes → decode n text = .error (.unknownOpcode (opcodeByte n text))) ∧
    (opcodeByte n text ∈ opcodes → ∃ i, decode n text = .ok i)

/-- R92, R104, R109: decoding the line of a well-formed command gives the command back, with every operand at every value the format
spells and whatever characters trail the format. -/
def Obligations.DecodeOfEncodeIsIdentity : Prop :=
  ∀ (n : Nat) (i : Instr) (trailing : List Byte), i.wellFormed = true → decode n (encode i ++ trailing) = .ok i

/-- R93, R164 (f): lower-case hex digits after the opcode decode as their upper-case ones. -/
def Obligations.HexDigitCaseDoesNotMatter : Prop :=
  ∀ (n : Nat) (op : Byte) (text : List Byte),
    decode n (op :: text.map lowerHex) = decode n (op :: text)

/-- R100: words written out from the encoding tables. Scenario 1's line, an extended REMOTE line, a selector and two formats without
operand. -/
def Obligations.WrittenOutLinesDecode : Prop :=
  ∀ n : Nat,
    decode n [0x74#8, 0x31#8, 0x32#8, 0x33#8, 0x38#8, 0x44#8, 0x45#8, 0x41#8, 0x44#8, 0x42#8, 0x45#8, 0x45#8, 0x46#8,
      0x31#8, 0x32#8, 0x33#8, 0x34#8, 0x35#8, 0x36#8, 0x37#8, 0x38#8] =
      .ok (.dataStd 0x123#32 8#8 #v[0xDE#8, 0xAD#8, 0xBE#8, 0xEF#8, 0x12#8, 0x34#8, 0x56#8, 0x78#8]) ∧
    decode n [0x52#8, 0x30#8, 0x30#8, 0x30#8, 0x30#8, 0x31#8, 0x32#8, 0x33#8, 0x34#8, 0x30#8, 0x30#8, 0x30#8, 0x30#8,
      0x30#8, 0x30#8, 0x30#8, 0x30#8, 0x30#8, 0x30#8, 0x30#8, 0x30#8, 0x30#8, 0x30#8, 0x30#8, 0x30#8, 0x30#8] =
      .ok (.remoteExt 0x1234#32 0#8 (Vector.replicate 8 0#8)) ∧
    decode n [0x53#8, 0x36#8] = .ok (.setBitrate 6#8) ∧
    decode n [0x4F#8] = .ok .openBus ∧ decode n [0x43#8] = .ok .closeBus

/-! ### The encoder -/

/-- R190 to R196: for every frame with a legal length the line is the type character, the identifier nybbles, the length, all eight
payload slots and the terminator, and the count is 22 or 27 (a positive count for every such frame is the spec's own decision D19,
log 30). -/
def Obligations.EncodeFrameLineShape : Prop :=
  ∀ f : Frame, f.len.toNat ≤ 8 →
    encodeFrame f = .ok
      ([if f.rtr then (if f.ext then 0x52#8 else 0x72#8) else (if f.ext then 0x54#8 else 0x74#8)] ++
        (if f.ext then [hexchar (f.id.extractLsb' 28 4), hexchar (f.id.extractLsb' 24 4), hexchar (f.id.extractLsb' 20 4),
            hexchar (f.id.extractLsb' 16 4), hexchar (f.id.extractLsb' 12 4), hexchar (f.id.extractLsb' 8 4),
            hexchar (f.id.extractLsb' 4 4), hexchar (f.id.extractLsb' 0 4)]
          else [hexchar (f.id.extractLsb' 8 4), hexchar (f.id.extractLsb' 4 4), hexchar (f.id.extractLsb' 0 4)]) ++
        [hexchar f.len] ++
        (f.data.toList.flatMap fun b => [hexchar (b.extractLsb' 4 4), hexchar (b.extractLsb' 0 4)]) ++
        [0x0D#8],
        if f.ext then 27 else 22)

/-- R198: for every frame that meets the invariant, its outbound line without the terminator decodes to a command that, with a free
slot, enqueues that very frame. -/
def Obligations.ReceivedFrameRoundTrip : Prop :=
  ∀ (f : Frame) (n : Nat) (s : State), frameOk f = true → ringFull s = false →
    ∃ i, decode n (outboundLine f).dropLast = .ok i ∧
      exec i s = .next { s with q := s.q.set s.head f, head := ringNext s.head, decStatus := .ok }

/-- R198, the converse: a frame command line of upper-case hex digits, of exactly its format's width, with a length digit of at most 8,
decodes to a command that enqueues a frame whose outbound line is that very line and the terminator; and so it is with the line a
frame command with a legal length is encoded as. (An identifier of three or eight digits needs no further bound, D5, log 27.) -/
def Obligations.FrameLineIsReproduced : Prop :=
  (∀ (n : Nat) (op : Byte) (ext rtr : Bool) (digits : List Byte),
    (op, ext, rtr) ∈ [(0x74#8, false, false), (0x54#8, true, false), (0x72#8, false, true), (0x52#8, true, true)] →
    digits.length = (if ext then 25 else 20) →
    (∀ c ∈ digits, (0x30 ≤ c.toNat ∧ c.toNat ≤ 0x39) ∨ (0x41 ≤ c.toNat ∧ c.toNat ≤ 0x46)) →
    (∀ c, digits[if ext then 8 else 3]? = some c → c.toNat ≤ 0x38) →
    ∃ i f, decode n (op :: digits) = .ok i ∧ f.ext = ext ∧ f.rtr = rtr ∧
      outboundLine f = op :: digits ++ [0x0D#8] ∧
      ∀ s : State, ringFull s = false →
        exec i s = .next { s with q := s.q.set s.head f, head := ringNext s.head, decStatus := .ok }) ∧
  ∀ (id : BitVec 32) (len8 : Byte) (data : Vector Byte 8), len8.toNat ≤ 8 →
    outboundLine (commandFrame false false id len8 data) = encode (.dataStd id len8 data) ++ [Config.term] ∧
    outboundLine (commandFrame true false id len8 data) = encode (.dataExt id len8 data) ++ [Config.term] ∧
    outboundLine (commandFrame false true id len8 data) = encode (.remoteStd id len8 data) ++ [Config.term] ∧
    outboundLine (commandFrame true true id len8 data) = encode (.remoteExt id len8 data) ++ [Config.term]

/-! ### The driver operations no command names -/

/-- R31: when the ring is empty and full, how many frames it holds and which, oldest first. -/
def Obligations.RingConditions : Prop :=
  ∀ s : State,
    (ringEmpty s = true ↔ s.head = s.tail) ∧
    (ringFull s = true ↔ (s.head.val + 1) % 28 = s.tail.val) ∧
    occupancy s = (s.head.val + 28 - s.tail.val) % 28 ∧ occupancy s ≤ 27 ∧
    (queued s).length = occupancy s ∧
    (∀ k, k < occupancy s → (queued s)[k]? = some (s.q[(s.tail.val + k) % 28]'(Nat.mod_lt _ (by decide)))) ∧
    (ringEmpty s = true ↔ occupancy s = 0) ∧ (ringFull s = true ↔ occupancy s = 27)

/-- R125, R126: `set_bitrate` called directly: the table's nine entries, 1000000 for any other selector, nothing while ON_BUS (the
pairing is the spec's own decision D4, log 8). -/
def Obligations.SetBitrateTableAndFallback : Prop :=
  (∀ (sel : Nat) (s : State), s.bus = .onBus → setBitrate sel s = s) ∧
  (∀ (sel : Nat) (s : State), s.bus = .offBus →
    setBitrate sel s = { s with
      rate := ([10000#20, 20000#20, 50000#20, 100000#20, 125000#20, 250000#20, 500000#20, 750000#20, 1000000#20] :
        List Rate).getD sel 1000000#20 })

/-- R130, R205: P3 on an empty ring asks the controller nothing; with TXIP set it leaves the ring alone; otherwise the oldest frame
is popped and submitted unchanged, and a rejection is counted and the frame lost. The environment then moves. That an accepted frame
alone fills the TX mailbox is the model's reading (log 14); that BUS and LOM are not looked at and that a submit is one transaction
are the spec's own decisions D23 and D17 (log 18, log 28). -/
def Obligations.TransmitServiceStep : Prop :=
  ∀ s : State, s.ph = .p3TxSvc →
    (s.head = s.tail → StepsThrough s { s with ph := .p4RxSvc }) ∧
    (s.head ≠ s.tail → s.ctl.txip = true →
      StepsThrough s { s with ph := .p4RxSvc, trace := s.trace ++ [.txip true] }) ∧
    (s.head ≠ s.tail → s.ctl.txip = false → s.ctl.accepts = true →
      StepsThrough s { s with
        ph := .p4RxSvc
        tail := Fin.ofNat 28 (s.tail.val + 1)
        ctl := { s.ctl with txMailbox := s.q[s.tail] }
        trace := s.trace ++ [.txip false, .submit s.q[s.tail] true] }) ∧
    (s.head ≠ s.tail → s.ctl.txip = false → s.ctl.accepts = false →
      StepsThrough s { s with
        ph := .p4RxSvc
        tail := Fin.ofNat 28 (s.tail.val + 1)
        txfailCnt := s.txfailCnt + 1
        trace := s.trace ++ [.txip false, .submit s.q[s.tail] false] })

/-- R132, R206: P4 with the bus closed consults nothing; with it open and FAV clear it reads FAV and nothing else. -/
def Obligations.ReceiveStepWithNothingPending : Prop :=
  ∀ s : State, s.ph = .p4RxSvc →
    (s.bus = .offBus → StepsThrough s { s with ph := .p1Input }) ∧
    (s.bus = .onBus → s.ctl.fav = false →
      StepsThrough s { s with ph := .p1Input, trace := s.trace ++ [.fav false] })

/-- R133, R206, R207, R44: P4 with a frame pending reads it into RXF, locks the latch (log 14), clears FAV and writes its whole line
to the transport, in that order; one frame and one line. That the whole line then stands in the outbound stream is the spec's own
decision D27 (log 19). -/
def Obligations.ReceiveStepWritesOneLine : Prop :=
  ∀ s : State, s.ph = .p4RxSvc → s.bus = .onBus → s.ctl.fav = true → s.ctl.rxMailbox.len.toNat ≤ 8 →
    StepsThrough s { s with
      ph := .p1Input
      rxf := s.ctl.rxMailbox
      ctl := { s.ctl with rxLatch := true, fav := false }
      outbound := s.outbound ++ outboundLine s.ctl.rxMailbox
      trace := s.trace ++ [.fav true, .rxRead s.ctl.rxMailbox, .rxClear, .outWrite (outboundLine s.ctl.rxMailbox)] }

/-- R197: P4 with a frame of length above 8 pending is refused: the model gives that step no meaning (that the whole step is refused
is log 12's). -/
def Obligations.ReceiveStepRefusesLongFrames : Prop :=
  ∀ s : State, s.ph = .p4RxSvc → s.bus = .onBus → s.ctl.fav = true → 8 < s.ctl.rxMailbox.len.toNat →
    step s = .refused .receivedLengthAbove8

/-- R134: a `receive_drain()` with nothing pending still reads some frame, unknown (log 13), commits it to RXF and clears FAV
(what is written in the controller is log 14's). -/
def Obligations.SpuriousDrainReadsSomeFrame : Prop :=
  ∀ s : State, receivePending s = false →
    ∃ f, receiveDrain s = { s with
      rxf := f
      draws := s.draws + 1
      ctl := { s.ctl with rxLatch := true, fav := false }
      trace := s.trace ++ [.rxRead f, .rxClear] }

/-! ### The accumulator and the sequencer -/

/-- R202, R203: a byte of P1 that is no terminator is stored at LEN; when the buffer holds 30 bytes they are lost and the byte becomes
the first of a new line (that this byte is kept is the spec's own decision D10, log 17). The environment then moves. -/
def Obligations.InputByteIsAccumulated : Prop :=
  ∀ (b : Byte) (rest : List Byte) (s : State),
    s.ph = .p1Input → s.opening = false → s.inbound = b :: rest → b ≠ 0x0D#8 →
    (∀ h : s.len.val < 30, StepsThrough s { s with
      im := true
      inbound := rest
      line := s.line.set s.len.val b h
      len := Fin.ofNat 31 (s.len.val + 1)
      trace := s.trace ++ [.inAvail true, .inPop b] }) ∧
    (s.len.val = 30 → StepsThrough s { s with
      im := true
      inbound := rest
      line := s.line.set 0 b
      len := 1
      trace := s.trace ++ [.inAvail true, .inPop b] })

/-- R90, R202, R203: what the current line is after one more byte of P1 that is no terminator (that the byte after 30 held ones is kept
as a new line is the spec's own decision D10, log 17). -/
def Obligations.CurrentLineGrowsByOneByte : Prop :=
  ∀ (b : Byte) (rest : List Byte) (s t : State),
    s.ph = .p1Input → s.opening = false → s.inbound = b :: rest → b ≠ 0x0D#8 → step s = .next t →
    lineBytes t = if (lineBytes s).length < 30 then lineBytes s ++ [b] else [b]

/-- R150, R202: a terminator in P1 decodes the accumulated line and runs the decoded command, and only that, on the state in which
the byte is popped, IM set (log 29), the line converted and one draw used (log 3); then LEN is reset unless the command is an `O` that
waits, and the environment moves. That an `O` whose controller is not ready, where R123 gives `enable()` no step, answers a next state
that keeps LEN until the wait ends is the model's choice (log 4). -/
def Obligations.StepRunsTheDecodedCommand : Prop :=
  ∀ (i : Instr) (rest : List Byte) (s : State),
    s.ph = .p1Input → s.opening = false → s.inbound = 0x0D#8 :: rest → decode s.draws (lineBytes s) = .ok i →
    step s = thenEnvStep (thenResetLine (exec i { convertLine s with
      im := true
      inbound := rest
      draws := s.draws + 1
      trace := s.trace ++ [.inAvail true, .inPop 0x0D#8] }))

/-- R165, R101: a terminated line whose opcode byte (a draw when the line is empty: R105, log 3, log 16) is none of the twelve sets the
status to FAIL; the step around it sets IM (R201, log 29), pops the terminator, converts LINE in place (R150), uses one draw and resets
LEN (R202). Nothing else changes, nothing is enqueued and nothing is sent; the environment then moves. -/
def Obligations.UnknownOpcodeOnlyFails : Prop :=
  ∀ (rest : List Byte) (s : State),
    s.ph = .p1Input → s.opening = false → s.inbound = 0x0D#8 :: rest → opcodeByte s.draws (lineBytes s) ∉ opcodes →
    StepsThrough s { s with
      im := true
      inbound := rest
      line := (convertLine s).line
      len := 0
      decStatus := .fail
      draws := s.draws + 1
      trace := s.trace ++ [.inAvail true, .inPop 0x0D#8] }

/-- R94, R95: the conversion pass puts the value of a hex digit and a draw for any other byte (log 3) at positions 1 to LEN-1, and leaves
position 0 and every position from LEN on. -/
def Obligations.ConversionPass : Prop :=
  ∀ (s : State) (p : Fin 30),
    (p.val = 0 ∨ s.len.val ≤ p.val → (convertLine s).line[p] = s.line[p]) ∧
    (∀ v, 1 ≤ p.val → p.val < s.len.val → hexval s.line[p] = some v → (convertLine s).line[p] = v) ∧
    (1 ≤ p.val → p.val < s.len.val → hexval s.line[p] = none → (convertLine s).line[p] = Config.freeByte s.draws p.val)

/-- R201, R204, R209: P1 with no byte left lifts the mask (log 29) and goes to P2; P2 changes nothing but the phase. -/
def Obligations.InputEndsAndLedStep : Prop :=
  (∀ s : State, s.ph = .p1Input → s.opening = false → s.inbound = [] →
    StepsThrough s { s with im := false, ph := .p2Led, trace := s.trace ++ [.inAvail false] }) ∧
  (∀ s : State, s.ph = .p2Led → StepsThrough s { s with ph := .p3TxSvc })

/-- R123, R261: while the controller is not ready the sequencer stays in the `O` command: the step changes nothing of the block, and
only the environment moves; once it is ready the sequence is finished, the status returned and the line reset. That the wait is a next
state and that status and LEN are written at its end is the model's choice (log 4: R123 gives `enable()` no step meanwhile); what the
transactions write in the controller is log 14's. -/
def Obligations.WaitingStep : Prop :=
  ∀ s : State, s.ph = .p1Input → s.opening = true →
    (s.ctl.ready = false → StepsThrough s s) ∧
    (s.ctl.ready = true → StepsThrough s { s with
      bus := .onBus
      decStatus := .ok
      opening := false
      len := 0
      ctl := { s.ctl with listenOnly := s.lom, frozen := false, masked := false, filterArmed := true }
      trace := s.trace ++ [.armFilter, .busUp] })

/-- R123, R261: a controller that stays not ready hangs the block inside `O` for as long as it does: no byte is taken, no frame
served, no transaction issued, and the tick stays masked. The hang shows as steps that answer next (log 4), and the controller's
future is the schedule (log 2). -/
def Obligations.NeverReadyHangs : Prop :=
  ∀ (s : State) (k : Nat),
    s.ph = .p1Input → s.opening = true → s.im = true → s.ctl.ready = false →
    (∀ m ∈ s.schedule, m.ctl.ready = false) → k ≤ s.schedule.length →
    ∃ t, run k s = .next t ∧
      t.ph = .p1Input ∧ t.opening = true ∧ t.bus = s.bus ∧ t.q = s.q ∧ t.head = s.head ∧ t.tail = s.tail ∧
      t.len = s.len ∧ t.outbound = s.outbound ∧ t.trace = s.trace ∧ t.tick = s.tick ∧ s.inbound <+: t.inbound

/-- R74, R90, R202: the bytes of a well-formed command and a terminator, standing at the head of the inbound stream at the start of a
line, run that command, one byte a step (log 1), on a state whose block registers are those the line began with (IM is set, log 29);
then LEN is reset unless the command is an `O` that waits. For an `O` whose controller is not ready at the terminator, where R123 gives
`enable()` no step, `t` is the wait, in which LEN is not yet reset: the model's choice (log 4). -/
def Obligations.CommandLineRunsItsCommand : Prop :=
  ∀ (i : Instr) (rest : List Byte) (s : State),
    i.wellFormed = true → s.ph = .p1Input → s.opening = false → s.len = 0 → s.inbound = encode i ++ 0x0D#8 :: rest →
    ∃ u t more, exec i u = .next t ∧
      run ((encode i).length + 1) s = .next (envStep (resetLine t)) ∧
      u.bus = s.bus ∧ u.rate = s.rate ∧ u.lom = s.lom ∧ u.art = s.art ∧ u.q = s.q ∧ u.head = s.head ∧ u.tail = s.tail ∧
      u.rxf = s.rxf ∧ u.qfullCnt = s.qfullCnt ∧ u.txfailCnt = s.txfailCnt ∧ u.decStatus = s.decStatus ∧
      u.outbound = s.outbound ∧ u.ph = .p1Input ∧ u.im = true ∧ u.inbound = rest ++ more

/-- R7, R46, R229, R230: the environment's move writes no register of the block; it appends to the inbound stream, and adds to the
tick only while IM is 0 (that a masked tick is not counted then is the model's choice, log 15). -/
def Obligations.EnvironmentWritesNoBlockRegister : Prop :=
  ∀ s : State, ∃ (c : Controller) (bytes : List Byte) (ticks : Nat) (sched : List EnvMove) (n : Nat),
    envStep s = { s with
      ctl := c
      inbound := s.inbound ++ bytes
      tick := if s.im then s.tick else s.tick + ticks
      schedule := sched
      envSteps := n }

/-! ### Reset -/

/-- R47, R120, R252: the reset values the spec gives (the spec's own decisions D11, D12, D16, D24, D29 among them; ART, Q, LINE, RXF
and DEC_STATUS are not named: their reset values are the model's choice, log 5). No transaction has been issued, and a pending frame
is not seen before `O`, whatever the controller holds. -/
def Obligations.ResetValuesTheSpecGives : Prop :=
  State.reset.bus = .offBus ∧ State.reset.rate = 125000#20 ∧ State.reset.lom = false ∧ State.reset.head = 0 ∧
  State.reset.tail = 0 ∧ State.reset.len = 0 ∧ State.reset.im = false ∧ State.reset.ph = .p1Input ∧
  State.reset.qfullCnt = 0 ∧ State.reset.txfailCnt = 0 ∧ State.reset.outbound = [] ∧ State.reset.trace = [] ∧
  ∀ c : Controller, receivePending { State.reset with ctl := c } = false

/-- R22, R25, R35, R47: the invariant holds after reset; the ring's slots hold the value log 5 chose. -/
def Obligations.ResetMeetsTheInvariants : Prop := Inv State.reset ∧ TraceInv State.reset

/-! ### Whole-machine statements -/

/-- R22, R25, R123, R164, R209: every step keeps the state invariant; its clause about the wait speaks of the model's field (log 4). -/
def Obligations.StepKeepsTheInvariant : Prop :=
  ∀ s t : State, Inv s → step s = .next t → Inv t

/-- R38, R42, R44, R121, R124, R130, R195: every step keeps what the record of port transactions (log 7) says of the registers; that the
outbound stream is all that was written rests on D27 (log 19). -/
def Obligations.StepKeepsTheTraceInvariant : Prop :=
  ∀ s t : State, Inv s → TraceInv s → step s = .next t → TraceInv t

/-- R24, R135, R234, R255: no command changes RATE, LOM or ART while the bus is open, and no step does. -/
def Obligations.ConfigurationIsFrozenWhileOpen : Prop :=
  (∀ (i : Instr) (s t : State), s.bus = .onBus → exec i s = .next t → config t = config s) ∧
  (∀ s t : State, s.bus = .onBus → step s = .next t → config t = config s)

/-- R135, R234: only `O` opens the bus and only `C` closes it; a step that changes it is in P1, and either takes the terminator of a
line that decodes to `O` (the bus closed) or `C` (the bus open), or finishes the wait of an `O` (log 4) and opens it. -/
def Obligations.OnlyOpenAndCloseChangeTheBus : Prop :=
  (∀ (i : Instr) (s t : State), exec i s = .next t → t.bus ≠ s.bus →
    (s.bus = .offBus ∧ i = .openBus) ∨ (s.bus = .onBus ∧ i = .closeBus)) ∧
  (∀ s t : State, step s = .next t → t.bus ≠ s.bus → s.ph = .p1Input ∧
    ((s.opening = false ∧ ∃ rest i, s.inbound = 0x0D#8 :: rest ∧ decode s.draws (lineBytes s) = .ok i ∧
        ((s.bus = .offBus ∧ i = .openBus) ∨ (s.bus = .onBus ∧ i = .closeBus))) ∨
      (s.opening = true ∧ s.ctl.ready = true ∧ s.bus = .offBus ∧ t.bus = .onBus)))

/-- R150, R211, R226: no command, whatever its outcome, writes to the transport or takes from it, moves the phase, touches the mask,
the line accumulator, RXF, TAIL, TXFAIL_CNT, the tick or the environment's future. -/
def Obligations.CommandsFrame : Prop :=
  ∀ (i : Instr) (s t : State), exec i s = .next t →
    t.outbound = s.outbound ∧ t.inbound = s.inbound ∧ t.ph = s.ph ∧ t.im = s.im ∧ t.line = s.line ∧ t.len = s.len ∧
    t.rxf = s.rxf ∧ t.tail = s.tail ∧ t.txfailCnt = s.txfailCnt ∧ t.tick = s.tick ∧ t.schedule = s.schedule ∧
    t.envSteps = s.envSteps ∧ s.trace <+: t.trace

/-- R220, R231: every command answers a next state, in every state: no failure stops the machine. For an `O` whose controller is not
ready, where R123 gives `enable()` no step and R166 makes its exception, the next state is the wait, the model's choice (log 4). -/
def Obligations.EveryCommandAnswersANextState : Prop :=
  ∀ (i : Instr) (s : State), ∃ t, exec i s = .next t

/-- R36, R200, R211: a step stays in P1 or goes to the next phase of the cycle, and no other phase repeats. -/
def Obligations.PhasesCycle : Prop :=
  ∀ s t : State, step s = .next t → t.ph = s.ph.succ ∨ (s.ph = .p1Input ∧ t.ph = .p1Input)

/-- R65, R197, R220: a step never faults, and stops only in P4, with the bus open and a frame of length above 8 pending. That the whole
P4 step is then refused is log 12's, and that a step inside the wait of `enable()` (R123: a stuck state) answers next is log 4's. -/
def Obligations.StepStopsOnlyOnLongReceivedFrames : Prop :=
  ∀ s : State, (∃ t, step s = .next t) ∨
    (step s = .refused .receivedLengthAbove8 ∧ s.ph = .p4RxSvc ∧ s.bus = .onBus ∧ s.ctl.fav = true ∧
      8 < s.ctl.rxMailbox.len.toNat)

/-- R129, R31: `transmit_enqueue` refines a queue of at most 27 frames. -/
def Obligations.EnqueueRefinesABoundedQueue : Prop :=
  ∀ (f : Frame) (s : State),
    ((queued s).length < 27 →
      queued (transmitEnqueue f s) = queued s ++ [f] ∧ (transmitEnqueue f s).qfullCnt = s.qfullCnt) ∧
    ((queued s).length = 27 → transmitEnqueue f s = { s with qfullCnt := s.qfullCnt + 1 })

/-- R130, R131, R264: `service_transmit` takes the oldest frame and no other, and submits it once, whether or not it is accepted; that it
does not look at BUS or LOM is the spec's own decision D23 (log 18). -/
def Obligations.ServiceTakesTheOldestFrame : Prop :=
  ∀ s : State,
    (queued s = [] ∨ s.ctl.txip = true →
      queued (serviceTransmit s) = queued s ∧ submitted (serviceTransmit s).trace = submitted s.trace) ∧
    (∀ f fs, queued s = f :: fs → s.ctl.txip = false →
      queued (serviceTransmit s) = fs ∧
      (serviceTransmit s).trace = s.trace ++ [.txip false, .submit f s.ctl.accepts])

/-- R129 (the ring property): from an empty ring, up to 27 enqueues succeed and hold the frames in order; the 28th fails and is
counted; after one frame leaves, one more enqueue succeeds. -/
def Obligations.RingHoldsTwentySevenFrames : Prop :=
  ∀ (s : State) (fs : List Frame) (f g : Frame), ringEmpty s = true → s.ctl.txip = false →
    let fill (l : List Frame) : State := l.foldl (fun u x => transmitEnqueue x u) s
    (fs.length ≤ 27 → queued (fill fs) = fs ∧ (fill fs).qfullCnt = s.qfullCnt) ∧
    (fs.length = 27 →
      queued (transmitEnqueue f (fill fs)) = fs ∧
      (transmitEnqueue f (fill fs)).qfullCnt = s.qfullCnt + 1 ∧
      queued (transmitEnqueue g (serviceTransmit (transmitEnqueue f (fill fs)))) = fs.tail ++ [g])

/-- R131, R264: over any run, the frames submitted and then the frames queued are, in order, what they were before and then the
frames accepted meanwhile: first in, first out, none twice, none out of turn. Over a run that contains a `C` this rests on R124's not
flushing the ring (R256), the spec's own decision D22 (log 18). -/
def Obligations.FramesLeaveInArrivalOrder : Prop :=
  ∀ (k : Nat) (s t : State), run k s = .next t →
    ∃ accepted : List Frame,
      submitted t.trace ++ queued t = submitted s.trace ++ queued s ++ accepted ∧ accepted.length ≤ k

/-- R64, R32: what LINE holds at and beyond LEN is never read (a missing position is a draw: D24, log 3): two states that differ there
only take steps that differ there only, and stop alike. -/
def Obligations.StaleLineBytesAreNeverRead : Prop :=
  ∀ s s' : State, SameButStaleLine s s' →
    (∀ t, step s = .next t → ∃ t', step s' = .next t' ∧ SameButStaleLine t t') ∧
    (∀ r, step s = .refused r → step s' = .refused r)

/-- R27, R128: ART is read by nothing: a step from a state with another ART differs in ART at most. -/
def Obligations.AutoRetransmitBitIsInert : Prop :=
  ∀ (b : Bool) (s t : State), step s = .next t →
    ∃ b', step (s.setArt b) = .next (t.setArt b')

/-- R45, R236: the tick is read by nothing: a step from a state with another tick differs in the tick at most. -/
def Obligations.TickIsReadByNothing : Prop :=
  ∀ (n : Nat) (s t : State), step s = .next t →
    ∃ n', step { s with tick := n } = .next { t with tick := n' }

/-- R71, R74, R200: a line of any of `t`, `T`, `r` and `R` taken in P1 is submitted in P3 of the same iteration when the ring was empty
and the controller idle: the terminator, the end of P1, P2 and P3 with no byte arriving in between (the environment's moves are the
schedule's, log 2). -/
def Obligations.ParsedFrameIsServedInTheSameIteration : Prop :=
  ∀ (ext rtr : Bool) (id : BitVec 32) (len8 : Byte) (data : Vector Byte 8) (s : State) (m1 m2 m3 m4 : EnvMove)
    (later : List EnvMove),
    s.ph = .p1Input → s.opening = false → s.inbound = [0x0D#8] → ringEmpty s = true → len8.toNat ≤ 8 →
    decode s.draws (lineBytes s) = .ok (frameCommand ext rtr id len8 data) →
    s.schedule = m1 :: m2 :: m3 :: m4 :: later → m1.bytes = [] → m3.ctl.txip = false →
    ∃ t, run 4 s = .next t ∧ t.ph = .p4RxSvc ∧ queued t = [] ∧
      submitted t.trace = submitted s.trace ++ [⟨ext, rtr, id, len8.setWidth 4, data⟩]
end

