-- ==== Sys2Proof/Laws/Decode.lean ====
section
/-! SUPPORT. What the hex conversions and the spellings say of each other (spec/30_encoding.md R93 to R98, R108): a written nybble
reads back, in every position of the formats. -/

namespace Sys2Proof

/-! ### The reference's positions (R8, R92) -/

@[simp] theorem Config.idNybbles_std : Config.idNybbles false = 3 := rfl
@[simp] theorem Config.idNybbles_ext : Config.idNybbles true = 8 := rfl
@[simp] theorem Config.idBits_std : Config.idBits false = 11 := rfl
@[simp] theorem Config.idBits_ext : Config.idBits true = 29 := rfl
@[simp] theorem lengthPos_std : lengthPos false = 4 := rfl
@[simp] theorem lengthPos_ext : lengthPos true = 9 := rfl
@[simp] theorem dataPos_std : dataPos false = 5 := rfl
@[simp] theorem dataPos_ext : dataPos true = 10 := rfl
theorem longestLine_eq : longestLine = 26 := rfl

@[simp] theorem digitOk_iff (d : Byte) : digitOk d = true ↔ d.toNat < 16 := by rw [digitOk, decide_eq_true_iff]

@[simp] theorem stdIdOk_iff (id : BitVec 32) : stdIdOk id = true ↔ id.toNat < 4096 := by
  rw [stdIdOk, decide_eq_true_iff]
  rfl

/-! ### One character -/

theorem hexval_hexchar : ∀ v : Nybble, hexval (hexchar v) = some (v.setWidth 8) := by decide

theorem hexval_digitChar : ∀ d : Byte, d.toNat < 16 → hexval (digitChar d) = some d := by decide

theorem hexchar_ne_term : ∀ v : Nybble, hexchar v ≠ Config.term := by decide

/-- A converted character is below 16 (R93). -/
theorem hexval_lt_sixteen {c v : Byte} (h : hexval c = some v) : v.toNat < 16 := by
  have all : ∀ c : Byte, (hexval c).all (fun v => decide (v.toNat < 16)) = true := by decide
  simpa [h] using all c

/-- A byte is its two nybbles (R62). -/
theorem nybbles_join : ∀ b : Byte, (b.extractLsb' 4 4).setWidth 8 * 16#8 + (b.extractLsb' 0 4).setWidth 8 = b := by decide

/-- A supplied hex digit is what the nybble read gives (R95). -/
theorem nyb_hex {n : Nat} {text : List Byte} {p : Nat} {c v : Byte} (h : text[p]? = some c) (hv : hexval c = some v) :
    nyb n text p = v := by simp [nyb, h, convertChar, hv]

theorem nyb_digitChar (n : Nat) (before after : List Byte) {d : Byte} (h : d.toNat < 16) :
    nyb n (before ++ digitChar d :: after) before.length = d :=
  nyb_hex (by simp) (hexval_digitChar d h)

/-! ### The spellings -/

@[simp] theorem length_idChars (count : Nat) (id : BitVec 32) : (idChars count id).length = count := by simp [idChars]

@[simp] theorem length_dataChars (data : Vector Byte 8) : (dataChars data).length = 16 := by
  obtain ⟨⟨l⟩, hl⟩ := data
  match l, hl with
  | [_, _, _, _, _, _, _, _], _ => simp [dataChars, byteChars]

theorem idChars_ne_term {count : Nat} {id : BitVec 32} : ∀ b ∈ idChars count id, b ≠ Config.term := by
  intro b hb
  obtain ⟨_, _, rfl⟩ := List.mem_map.1 hb
  exact hexchar_ne_term _

theorem dataChars_ne_term {data : Vector Byte 8} : ∀ b ∈ dataChars data, b ≠ Config.term := by
  intro b hb
  simp only [dataChars, byteChars, List.mem_flatMap, List.mem_cons, List.not_mem_nil, or_false] at hb
  obtain ⟨_, _, rfl | rfl⟩ := hb <;> exact hexchar_ne_term _

/-- The two characters of payload slot `k` (R62). -/
theorem dataChars_slot (data : Vector Byte 8) (k : Fin 8) :
    (dataChars data)[2 * k.val]? = some (hexchar (data[k].extractLsb' 4 4)) ∧
    (dataChars data)[2 * k.val + 1]? = some (hexchar (data[k].extractLsb' 0 4)) := by
  obtain ⟨⟨l⟩, hl⟩ := data
  match l, hl with
  | [_, _, _, _, _, _, _, _], _ => fin_cases k <;> simp [dataChars, byteChars]

/-! ### Operands read back -/

/-- A spelled payload assembles to itself, whatever stands before and after it (R98). -/
theorem assembleData_dataChars (n : Nat) (before after : List Byte) (data : Vector Byte 8) :
    assembleData n (before ++ (dataChars data ++ after)) before.length = data := by
  apply Vector.ext
  intro k hk
  have hk8 : k < 8 := hk
  have hl := length_dataChars data
  obtain ⟨h1, h2⟩ := dataChars_slot data ⟨k, hk⟩
  have e1 : (before ++ (dataChars data ++ after))[before.length + 2 * k]? = some (hexchar (data[k].extractLsb' 4 4)) := by
    rw [List.getElem?_append_right (by omega), List.getElem?_append_left (by omega)]
    simpa using h1
  have e2 : (before ++ (dataChars data ++ after))[before.length + 2 * k + 1]? =
      some (hexchar (data[k].extractLsb' 0 4)) := by
    rw [List.getElem?_append_right (by omega), List.getElem?_append_left (by omega),
      show before.length + 2 * k + 1 - before.length = 2 * k + 1 by omega]
    simpa using h2
  simp only [assembleData, Vector.getElem_ofFn]
  rw [nyb_hex e1 (hexval_hexchar _), nyb_hex e2 (hexval_hexchar _), nybbles_join]

/-- Nybble `j` of a spelled identifier, which starts at position 1 (R96). -/
theorem nyb_idChars (n : Nat) (op : Byte) {count : Nat} (id : BitVec 32) (after : List Byte) {j : Nat} (hj : j < count) :
    nyb n (op :: (idChars count id ++ after)) (j + 1) = (id.extractLsb' (4 * (count - 1 - j)) 4).setWidth 8 :=
  nyb_hex (by
    rw [List.getElem?_cons_succ, List.getElem?_append_left (by simpa using hj)]
    simp [idChars, hj]) (hexval_hexchar _)

/-- Three spelled nybbles assemble to the identifier they are all of (R96). -/
theorem assembleId_three (n : Nat) (op : Byte) (id : BitVec 32) (after : List Byte) (h : id.toNat < 4096) :
    assembleId n (op :: (idChars 3 id ++ after)) 3 = id := by
  have e (j : Nat) (hj : j < 3) := nyb_idChars n op id after hj
  apply BitVec.eq_of_toNat_eq
  simp [assembleId, List.range'_succ, e 0, e 1, e 2, BitVec.toNat_add, BitVec.toNat_mul, Nat.shiftRight_eq_div_pow]
  omega

/-- Eight spelled nybbles assemble to the identifier, whatever it is (R96, D5). -/
theorem assembleId_eight (n : Nat) (op : Byte) (id : BitVec 32) (after : List Byte) :
    assembleId n (op :: (idChars 8 id ++ after)) 8 = id := by
  have e (j : Nat) (hj : j < 8) := nyb_idChars n op id after hj
  have := id.isLt
  apply BitVec.eq_of_toNat_eq
  simp [assembleId, List.range'_succ, e 0, e 1, e 2, e 3, e 4, e 5, e 6, e 7, BitVec.toNat_add, BitVec.toNat_mul,
    Nat.shiftRight_eq_div_pow]
  omega

end Sys2Proof
end

