-- ==== Sys2Proof/Laws/State.lean ====
section
/-! SUPPORT. What each named update of State does to each field: one lemma per field per update, all true by rfl. -/

namespace Sys2Proof.Machine

variable (s : State)

/-! ### setBus -/

@[simp] theorem State.setBus_bus (b : BusState) : (s.setBus b).bus = b := rfl
@[simp] theorem State.setBus_rate (b : BusState) : (s.setBus b).rate = s.rate := rfl
@[simp] theorem State.setBus_lom (b : BusState) : (s.setBus b).lom = s.lom := rfl
@[simp] theorem State.setBus_art (b : BusState) : (s.setBus b).art = s.art := rfl
@[simp] theorem State.setBus_q (b : BusState) : (s.setBus b).q = s.q := rfl
@[simp] theorem State.setBus_head (b : BusState) : (s.setBus b).head = s.head := rfl
@[simp] theorem State.setBus_tail (b : BusState) : (s.setBus b).tail = s.tail := rfl
@[simp] theorem State.setBus_line (b : BusState) : (s.setBus b).line = s.line := rfl
@[simp] theorem State.setBus_len (b : BusState) : (s.setBus b).len = s.len := rfl
@[simp] theorem State.setBus_rxf (b : BusState) : (s.setBus b).rxf = s.rxf := rfl
@[simp] theorem State.setBus_im (b : BusState) : (s.setBus b).im = s.im := rfl
@[simp] theorem State.setBus_ph (b : BusState) : (s.setBus b).ph = s.ph := rfl
@[simp] theorem State.setBus_qfullCnt (b : BusState) : (s.setBus b).qfullCnt = s.qfullCnt := rfl
@[simp] theorem State.setBus_txfailCnt (b : BusState) : (s.setBus b).txfailCnt = s.txfailCnt := rfl
@[simp] theorem State.setBus_decStatus (b : BusState) : (s.setBus b).decStatus = s.decStatus := rfl
@[simp] theorem State.setBus_opening (b : BusState) : (s.setBus b).opening = s.opening := rfl
@[simp] theorem State.setBus_draws (b : BusState) : (s.setBus b).draws = s.draws := rfl
@[simp] theorem State.setBus_ctl (b : BusState) : (s.setBus b).ctl = s.ctl := rfl
@[simp] theorem State.setBus_inbound (b : BusState) : (s.setBus b).inbound = s.inbound := rfl
@[simp] theorem State.setBus_outbound (b : BusState) : (s.setBus b).outbound = s.outbound := rfl
@[simp] theorem State.setBus_tick (b : BusState) : (s.setBus b).tick = s.tick := rfl
@[simp] theorem State.setBus_schedule (b : BusState) : (s.setBus b).schedule = s.schedule := rfl
@[simp] theorem State.setBus_envSteps (b : BusState) : (s.setBus b).envSteps = s.envSteps := rfl
@[simp] theorem State.setBus_trace (b : BusState) : (s.setBus b).trace = s.trace := rfl

/-! ### setRate -/

@[simp] theorem State.setRate_bus (r : Rate) : (s.setRate r).bus = s.bus := rfl
@[simp] theorem State.setRate_rate (r : Rate) : (s.setRate r).rate = r := rfl
@[simp] theorem State.setRate_lom (r : Rate) : (s.setRate r).lom = s.lom := rfl
@[simp] theorem State.setRate_art (r : Rate) : (s.setRate r).art = s.art := rfl
@[simp] theorem State.setRate_q (r : Rate) : (s.setRate r).q = s.q := rfl
@[simp] theorem State.setRate_head (r : Rate) : (s.setRate r).head = s.head := rfl
@[simp] theorem State.setRate_tail (r : Rate) : (s.setRate r).tail = s.tail := rfl
@[simp] theorem State.setRate_line (r : Rate) : (s.setRate r).line = s.line := rfl
@[simp] theorem State.setRate_len (r : Rate) : (s.setRate r).len = s.len := rfl
@[simp] theorem State.setRate_rxf (r : Rate) : (s.setRate r).rxf = s.rxf := rfl
@[simp] theorem State.setRate_im (r : Rate) : (s.setRate r).im = s.im := rfl
@[simp] theorem State.setRate_ph (r : Rate) : (s.setRate r).ph = s.ph := rfl
@[simp] theorem State.setRate_qfullCnt (r : Rate) : (s.setRate r).qfullCnt = s.qfullCnt := rfl
@[simp] theorem State.setRate_txfailCnt (r : Rate) : (s.setRate r).txfailCnt = s.txfailCnt := rfl
@[simp] theorem State.setRate_decStatus (r : Rate) : (s.setRate r).decStatus = s.decStatus := rfl
@[simp] theorem State.setRate_opening (r : Rate) : (s.setRate r).opening = s.opening := rfl
@[simp] theorem State.setRate_draws (r : Rate) : (s.setRate r).draws = s.draws := rfl
@[simp] theorem State.setRate_ctl (r : Rate) : (s.setRate r).ctl = s.ctl := rfl
@[simp] theorem State.setRate_inbound (r : Rate) : (s.setRate r).inbound = s.inbound := rfl
@[simp] theorem State.setRate_outbound (r : Rate) : (s.setRate r).outbound = s.outbound := rfl
@[simp] theorem State.setRate_tick (r : Rate) : (s.setRate r).tick = s.tick := rfl
@[simp] theorem State.setRate_schedule (r : Rate) : (s.setRate r).schedule = s.schedule := rfl
@[simp] theorem State.setRate_envSteps (r : Rate) : (s.setRate r).envSteps = s.envSteps := rfl
@[simp] theorem State.setRate_trace (r : Rate) : (s.setRate r).trace = s.trace := rfl

/-! ### setLom -/

@[simp] theorem State.setLom_bus (b : Bool) : (s.setLom b).bus = s.bus := rfl
@[simp] theorem State.setLom_rate (b : Bool) : (s.setLom b).rate = s.rate := rfl
@[simp] theorem State.setLom_lom (b : Bool) : (s.setLom b).lom = b := rfl
@[simp] theorem State.setLom_art (b : Bool) : (s.setLom b).art = s.art := rfl
@[simp] theorem State.setLom_q (b : Bool) : (s.setLom b).q = s.q := rfl
@[simp] theorem State.setLom_head (b : Bool) : (s.setLom b).head = s.head := rfl
@[simp] theorem State.setLom_tail (b : Bool) : (s.setLom b).tail = s.tail := rfl
@[simp] theorem State.setLom_line (b : Bool) : (s.setLom b).line = s.line := rfl
@[simp] theorem State.setLom_len (b : Bool) : (s.setLom b).len = s.len := rfl
@[simp] theorem State.setLom_rxf (b : Bool) : (s.setLom b).rxf = s.rxf := rfl
@[simp] theorem State.setLom_im (b : Bool) : (s.setLom b).im = s.im := rfl
@[simp] theorem State.setLom_ph (b : Bool) : (s.setLom b).ph = s.ph := rfl
@[simp] theorem State.setLom_qfullCnt (b : Bool) : (s.setLom b).qfullCnt = s.qfullCnt := rfl
@[simp] theorem State.setLom_txfailCnt (b : Bool) : (s.setLom b).txfailCnt = s.txfailCnt := rfl
@[simp] theorem State.setLom_decStatus (b : Bool) : (s.setLom b).decStatus = s.decStatus := rfl
@[simp] theorem State.setLom_opening (b : Bool) : (s.setLom b).opening = s.opening := rfl
@[simp] theorem State.setLom_draws (b : Bool) : (s.setLom b).draws = s.draws := rfl
@[simp] theorem State.setLom_ctl (b : Bool) : (s.setLom b).ctl = s.ctl := rfl
@[simp] theorem State.setLom_inbound (b : Bool) : (s.setLom b).inbound = s.inbound := rfl
@[simp] theorem State.setLom_outbound (b : Bool) : (s.setLom b).outbound = s.outbound := rfl
@[simp] theorem State.setLom_tick (b : Bool) : (s.setLom b).tick = s.tick := rfl
@[simp] theorem State.setLom_schedule (b : Bool) : (s.setLom b).schedule = s.schedule := rfl
@[simp] theorem State.setLom_envSteps (b : Bool) : (s.setLom b).envSteps = s.envSteps := rfl
@[simp] theorem State.setLom_trace (b : Bool) : (s.setLom b).trace = s.trace := rfl

/-! ### setArt -/

@[simp] theorem State.setArt_bus (b : Bool) : (s.setArt b).bus = s.bus := rfl
@[simp] theorem State.setArt_rate (b : Bool) : (s.setArt b).rate = s.rate := rfl
@[simp] theorem State.setArt_lom (b : Bool) : (s.setArt b).lom = s.lom := rfl
@[simp] theorem State.setArt_art (b : Bool) : (s.setArt b).art = b := rfl
@[simp] theorem State.setArt_q (b : Bool) : (s.setArt b).q = s.q := rfl
@[simp] theorem State.setArt_head (b : Bool) : (s.setArt b).head = s.head := rfl
@[simp] theorem State.setArt_tail (b : Bool) : (s.setArt b).tail = s.tail := rfl
@[simp] theorem State.setArt_line (b : Bool) : (s.setArt b).line = s.line := rfl
@[simp] theorem State.setArt_len (b : Bool) : (s.setArt b).len = s.len := rfl
@[simp] theorem State.setArt_rxf (b : Bool) : (s.setArt b).rxf = s.rxf := rfl
@[simp] theorem State.setArt_im (b : Bool) : (s.setArt b).im = s.im := rfl
@[simp] theorem State.setArt_ph (b : Bool) : (s.setArt b).ph = s.ph := rfl
@[simp] theorem State.setArt_qfullCnt (b : Bool) : (s.setArt b).qfullCnt = s.qfullCnt := rfl
@[simp] theorem State.setArt_txfailCnt (b : Bool) : (s.setArt b).txfailCnt = s.txfailCnt := rfl
@[simp] theorem State.setArt_decStatus (b : Bool) : (s.setArt b).decStatus = s.decStatus := rfl
@[simp] theorem State.setArt_opening (b : Bool) : (s.setArt b).opening = s.opening := rfl
@[simp] theorem State.setArt_draws (b : Bool) : (s.setArt b).draws = s.draws := rfl
@[simp] theorem State.setArt_ctl (b : Bool) : (s.setArt b).ctl = s.ctl := rfl
@[simp] theorem State.setArt_inbound (b : Bool) : (s.setArt b).inbound = s.inbound := rfl
@[simp] theorem State.setArt_outbound (b : Bool) : (s.setArt b).outbound = s.outbound := rfl
@[simp] theorem State.setArt_tick (b : Bool) : (s.setArt b).tick = s.tick := rfl
@[simp] theorem State.setArt_schedule (b : Bool) : (s.setArt b).schedule = s.schedule := rfl
@[simp] theorem State.setArt_envSteps (b : Bool) : (s.setArt b).envSteps = s.envSteps := rfl
@[simp] theorem State.setArt_trace (b : Bool) : (s.setArt b).trace = s.trace := rfl

/-! ### setQ -/

@[simp] theorem State.setQ_bus (v : Vector Frame Config.ringSlots) : (s.setQ v).bus = s.bus := rfl
@[simp] theorem State.setQ_rate (v : Vector Frame Config.ringSlots) : (s.setQ v).rate = s.rate := rfl
@[simp] theorem State.setQ_lom (v : Vector Frame Config.ringSlots) : (s.setQ v).lom = s.lom := rfl
@[simp] theorem State.setQ_art (v : Vector Frame Config.ringSlots) : (s.setQ v).art = s.art := rfl
@[simp] theorem State.setQ_q (v : Vector Frame Config.ringSlots) : (s.setQ v).q = v := rfl
@[simp] theorem State.setQ_head (v : Vector Frame Config.ringSlots) : (s.setQ v).head = s.head := rfl
@[simp] theorem State.setQ_tail (v : Vector Frame Config.ringSlots) : (s.setQ v).tail = s.tail := rfl
@[simp] theorem State.setQ_line (v : Vector Frame Config.ringSlots) : (s.setQ v).line = s.line := rfl
@[simp] theorem State.setQ_len (v : Vector Frame Config.ringSlots) : (s.setQ v).len = s.len := rfl
@[simp] theorem State.setQ_rxf (v : Vector Frame Config.ringSlots) : (s.setQ v).rxf = s.rxf := rfl
@[simp] theorem State.setQ_im (v : Vector Frame Config.ringSlots) : (s.setQ v).im = s.im := rfl
@[simp] theorem State.setQ_ph (v : Vector Frame Config.ringSlots) : (s.setQ v).ph = s.ph := rfl
@[simp] theorem State.setQ_qfullCnt (v : Vector Frame Config.ringSlots) : (s.setQ v).qfullCnt = s.qfullCnt := rfl
@[simp] theorem State.setQ_txfailCnt (v : Vector Frame Config.ringSlots) : (s.setQ v).txfailCnt = s.txfailCnt := rfl
@[simp] theorem State.setQ_decStatus (v : Vector Frame Config.ringSlots) : (s.setQ v).decStatus = s.decStatus := rfl
@[simp] theorem State.setQ_opening (v : Vector Frame Config.ringSlots) : (s.setQ v).opening = s.opening := rfl
@[simp] theorem State.setQ_draws (v : Vector Frame Config.ringSlots) : (s.setQ v).draws = s.draws := rfl
@[simp] theorem State.setQ_ctl (v : Vector Frame Config.ringSlots) : (s.setQ v).ctl = s.ctl := rfl
@[simp] theorem State.setQ_inbound (v : Vector Frame Config.ringSlots) : (s.setQ v).inbound = s.inbound := rfl
@[simp] theorem State.setQ_outbound (v : Vector Frame Config.ringSlots) : (s.setQ v).outbound = s.outbound := rfl
@[simp] theorem State.setQ_tick (v : Vector Frame Config.ringSlots) : (s.setQ v).tick = s.tick := rfl
@[simp] theorem State.setQ_schedule (v : Vector Frame Config.ringSlots) : (s.setQ v).schedule = s.schedule := rfl
@[simp] theorem State.setQ_envSteps (v : Vector Frame Config.ringSlots) : (s.setQ v).envSteps = s.envSteps := rfl
@[simp] theorem State.setQ_trace (v : Vector Frame Config.ringSlots) : (s.setQ v).trace = s.trace := rfl

/-! ### setHead -/

@[simp] theorem State.setHead_bus (i : Fin Config.ringSlots) : (s.setHead i).bus = s.bus := rfl
@[simp] theorem State.setHead_rate (i : Fin Config.ringSlots) : (s.setHead i).rate = s.rate := rfl
@[simp] theorem State.setHead_lom (i : Fin Config.ringSlots) : (s.setHead i).lom = s.lom := rfl
@[simp] theorem State.setHead_art (i : Fin Config.ringSlots) : (s.setHead i).art = s.art := rfl
@[simp] theorem State.setHead_q (i : Fin Config.ringSlots) : (s.setHead i).q = s.q := rfl
@[simp] theorem State.setHead_head (i : Fin Config.ringSlots) : (s.setHead i).head = i := rfl
@[simp] theorem State.setHead_tail (i : Fin Config.ringSlots) : (s.setHead i).tail = s.tail := rfl
@[simp] theorem State.setHead_line (i : Fin Config.ringSlots) : (s.setHead i).line = s.line := rfl
@[simp] theorem State.setHead_len (i : Fin Config.ringSlots) : (s.setHead i).len = s.len := rfl
@[simp] theorem State.setHead_rxf (i : Fin Config.ringSlots) : (s.setHead i).rxf = s.rxf := rfl
@[simp] theorem State.setHead_im (i : Fin Config.ringSlots) : (s.setHead i).im = s.im := rfl
@[simp] theorem State.setHead_ph (i : Fin Config.ringSlots) : (s.setHead i).ph = s.ph := rfl
@[simp] theorem State.setHead_qfullCnt (i : Fin Config.ringSlots) : (s.setHead i).qfullCnt = s.qfullCnt := rfl
@[simp] theorem State.setHead_txfailCnt (i : Fin Config.ringSlots) : (s.setHead i).txfailCnt = s.txfailCnt := rfl
@[simp] theorem State.setHead_decStatus (i : Fin Config.ringSlots) : (s.setHead i).decStatus = s.decStatus := rfl
@[simp] theorem State.setHead_opening (i : Fin Config.ringSlots) : (s.setHead i).opening = s.opening := rfl
@[simp] theorem State.setHead_draws (i : Fin Config.ringSlots) : (s.setHead i).draws = s.draws := rfl
@[simp] theorem State.setHead_ctl (i : Fin Config.ringSlots) : (s.setHead i).ctl = s.ctl := rfl
@[simp] theorem State.setHead_inbound (i : Fin Config.ringSlots) : (s.setHead i).inbound = s.inbound := rfl
@[simp] theorem State.setHead_outbound (i : Fin Config.ringSlots) : (s.setHead i).outbound = s.outbound := rfl
@[simp] theorem State.setHead_tick (i : Fin Config.ringSlots) : (s.setHead i).tick = s.tick := rfl
@[simp] theorem State.setHead_schedule (i : Fin Config.ringSlots) : (s.setHead i).schedule = s.schedule := rfl
@[simp] theorem State.setHead_envSteps (i : Fin Config.ringSlots) : (s.setHead i).envSteps = s.envSteps := rfl
@[simp] theorem State.setHead_trace (i : Fin Config.ringSlots) : (s.setHead i).trace = s.trace := rfl

/-! ### setTail -/

@[simp] theorem State.setTail_bus (i : Fin Config.ringSlots) : (s.setTail i).bus = s.bus := rfl
@[simp] theorem State.setTail_rate (i : Fin Config.ringSlots) : (s.setTail i).rate = s.rate := rfl
@[simp] theorem State.setTail_lom (i : Fin Config.ringSlots) : (s.setTail i).lom = s.lom := rfl
@[simp] theorem State.setTail_art (i : Fin Config.ringSlots) : (s.setTail i).art = s.art := rfl
@[simp] theorem State.setTail_q (i : Fin Config.ringSlots) : (s.setTail i).q = s.q := rfl
@[simp] theorem State.setTail_head (i : Fin Config.ringSlots) : (s.setTail i).head = s.head := rfl
@[simp] theorem State.setTail_tail (i : Fin Config.ringSlots) : (s.setTail i).tail = i := rfl
@[simp] theorem State.setTail_line (i : Fin Config.ringSlots) : (s.setTail i).line = s.line := rfl
@[simp] theorem State.setTail_len (i : Fin Config.ringSlots) : (s.setTail i).len = s.len := rfl
@[simp] theorem State.setTail_rxf (i : Fin Config.ringSlots) : (s.setTail i).rxf = s.rxf := rfl
@[simp] theorem State.setTail_im (i : Fin Config.ringSlots) : (s.setTail i).im = s.im := rfl
@[simp] theorem State.setTail_ph (i : Fin Config.ringSlots) : (s.setTail i).ph = s.ph := rfl
@[simp] theorem State.setTail_qfullCnt (i : Fin Config.ringSlots) : (s.setTail i).qfullCnt = s.qfullCnt := rfl
@[simp] theorem State.setTail_txfailCnt (i : Fin Config.ringSlots) : (s.setTail i).txfailCnt = s.txfailCnt := rfl
@[simp] theorem State.setTail_decStatus (i : Fin Config.ringSlots) : (s.setTail i).decStatus = s.decStatus := rfl
@[simp] theorem State.setTail_opening (i : Fin Config.ringSlots) : (s.setTail i).opening = s.opening := rfl
@[simp] theorem State.setTail_draws (i : Fin Config.ringSlots) : (s.setTail i).draws = s.draws := rfl
@[simp] theorem State.setTail_ctl (i : Fin Config.ringSlots) : (s.setTail i).ctl = s.ctl := rfl
@[simp] theorem State.setTail_inbound (i : Fin Config.ringSlots) : (s.setTail i).inbound = s.inbound := rfl
@[simp] theorem State.setTail_outbound (i : Fin Config.ringSlots) : (s.setTail i).outbound = s.outbound := rfl
@[simp] theorem State.setTail_tick (i : Fin Config.ringSlots) : (s.setTail i).tick = s.tick := rfl
@[simp] theorem State.setTail_schedule (i : Fin Config.ringSlots) : (s.setTail i).schedule = s.schedule := rfl
@[simp] theorem State.setTail_envSteps (i : Fin Config.ringSlots) : (s.setTail i).envSteps = s.envSteps := rfl
@[simp] theorem State.setTail_trace (i : Fin Config.ringSlots) : (s.setTail i).trace = s.trace := rfl

/-! ### setLine -/

@[simp] theorem State.setLine_bus (v : Vector Byte Config.lineCap) : (s.setLine v).bus = s.bus := rfl
@[simp] theorem State.setLine_rate (v : Vector Byte Config.lineCap) : (s.setLine v).rate = s.rate := rfl
@[simp] theorem State.setLine_lom (v : Vector Byte Config.lineCap) : (s.setLine v).lom = s.lom := rfl
@[simp] theorem State.setLine_art (v : Vector Byte Config.lineCap) : (s.setLine v).art = s.art := rfl
@[simp] theorem State.setLine_q (v : Vector Byte Config.lineCap) : (s.setLine v).q = s.q := rfl
@[simp] theorem State.setLine_head (v : Vector Byte Config.lineCap) : (s.setLine v).head = s.head := rfl
@[simp] theorem State.setLine_tail (v : Vector Byte Config.lineCap) : (s.setLine v).tail = s.tail := rfl
@[simp] theorem State.setLine_line (v : Vector Byte Config.lineCap) : (s.setLine v).line = v := rfl
@[simp] theorem State.setLine_len (v : Vector Byte Config.lineCap) : (s.setLine v).len = s.len := rfl
@[simp] theorem State.setLine_rxf (v : Vector Byte Config.lineCap) : (s.setLine v).rxf = s.rxf := rfl
@[simp] theorem State.setLine_im (v : Vector Byte Config.lineCap) : (s.setLine v).im = s.im := rfl
@[simp] theorem State.setLine_ph (v : Vector Byte Config.lineCap) : (s.setLine v).ph = s.ph := rfl
@[simp] theorem State.setLine_qfullCnt (v : Vector Byte Config.lineCap) : (s.setLine v).qfullCnt = s.qfullCnt := rfl
@[simp] theorem State.setLine_txfailCnt (v : Vector Byte Config.lineCap) : (s.setLine v).txfailCnt = s.txfailCnt := rfl
@[simp] theorem State.setLine_decStatus (v : Vector Byte Config.lineCap) : (s.setLine v).decStatus = s.decStatus := rfl
@[simp] theorem State.setLine_opening (v : Vector Byte Config.lineCap) : (s.setLine v).opening = s.opening := rfl
@[simp] theorem State.setLine_draws (v : Vector Byte Config.lineCap) : (s.setLine v).draws = s.draws := rfl
@[simp] theorem State.setLine_ctl (v : Vector Byte Config.lineCap) : (s.setLine v).ctl = s.ctl := rfl
@[simp] theorem State.setLine_inbound (v : Vector Byte Config.lineCap) : (s.setLine v).inbound = s.inbound := rfl
@[simp] theorem State.setLine_outbound (v : Vector Byte Config.lineCap) : (s.setLine v).outbound = s.outbound := rfl
@[simp] theorem State.setLine_tick (v : Vector Byte Config.lineCap) : (s.setLine v).tick = s.tick := rfl
@[simp] theorem State.setLine_schedule (v : Vector Byte Config.lineCap) : (s.setLine v).schedule = s.schedule := rfl
@[simp] theorem State.setLine_envSteps (v : Vector Byte Config.lineCap) : (s.setLine v).envSteps = s.envSteps := rfl
@[simp] theorem State.setLine_trace (v : Vector Byte Config.lineCap) : (s.setLine v).trace = s.trace := rfl

/-! ### setLen -/

@[simp] theorem State.setLen_bus (n : Fin (Config.lineCap + 1)) : (s.setLen n).bus = s.bus := rfl
@[simp] theorem State.setLen_rate (n : Fin (Config.lineCap + 1)) : (s.setLen n).rate = s.rate := rfl
@[simp] theorem State.setLen_lom (n : Fin (Config.lineCap + 1)) : (s.setLen n).lom = s.lom := rfl
@[simp] theorem State.setLen_art (n : Fin (Config.lineCap + 1)) : (s.setLen n).art = s.art := rfl
@[simp] theorem State.setLen_q (n : Fin (Config.lineCap + 1)) : (s.setLen n).q = s.q := rfl
@[simp] theorem State.setLen_head (n : Fin (Config.lineCap + 1)) : (s.setLen n).head = s.head := rfl
@[simp] theorem State.setLen_tail (n : Fin (Config.lineCap + 1)) : (s.setLen n).tail = s.tail := rfl
@[simp] theorem State.setLen_line (n : Fin (Config.lineCap + 1)) : (s.setLen n).line = s.line := rfl
@[simp] theorem State.setLen_len (n : Fin (Config.lineCap + 1)) : (s.setLen n).len = n := rfl
@[simp] theorem State.setLen_rxf (n : Fin (Config.lineCap + 1)) : (s.setLen n).rxf = s.rxf := rfl
@[simp] theorem State.setLen_im (n : Fin (Config.lineCap + 1)) : (s.setLen n).im = s.im := rfl
@[simp] theorem State.setLen_ph (n : Fin (Config.lineCap + 1)) : (s.setLen n).ph = s.ph := rfl
@[simp] theorem State.setLen_qfullCnt (n : Fin (Config.lineCap + 1)) : (s.setLen n).qfullCnt = s.qfullCnt := rfl
@[simp] theorem State.setLen_txfailCnt (n : Fin (Config.lineCap + 1)) : (s.setLen n).txfailCnt = s.txfailCnt := rfl
@[simp] theorem State.setLen_decStatus (n : Fin (Config.lineCap + 1)) : (s.setLen n).decStatus = s.decStatus := rfl
@[simp] theorem State.setLen_opening (n : Fin (Config.lineCap + 1)) : (s.setLen n).opening = s.opening := rfl
@[simp] theorem State.setLen_draws (n : Fin (Config.lineCap + 1)) : (s.setLen n).draws = s.draws := rfl
@[simp] theorem State.setLen_ctl (n : Fin (Config.lineCap + 1)) : (s.setLen n).ctl = s.ctl := rfl
@[simp] theorem State.setLen_inbound (n : Fin (Config.lineCap + 1)) : (s.setLen n).inbound = s.inbound := rfl
@[simp] theorem State.setLen_outbound (n : Fin (Config.lineCap + 1)) : (s.setLen n).outbound = s.outbound := rfl
@[simp] theorem State.setLen_tick (n : Fin (Config.lineCap + 1)) : (s.setLen n).tick = s.tick := rfl
@[simp] theorem State.setLen_schedule (n : Fin (Config.lineCap + 1)) : (s.setLen n).schedule = s.schedule := rfl
@[simp] theorem State.setLen_envSteps (n : Fin (Config.lineCap + 1)) : (s.setLen n).envSteps = s.envSteps := rfl
@[simp] theorem State.setLen_trace (n : Fin (Config.lineCap + 1)) : (s.setLen n).trace = s.trace := rfl

/-! ### setRxf -/

@[simp] theorem State.setRxf_bus (f : Frame) : (s.setRxf f).bus = s.bus := rfl
@[simp] theorem State.setRxf_rate (f : Frame) : (s.setRxf f).rate = s.rate := rfl
@[simp] theorem State.setRxf_lom (f : Frame) : (s.setRxf f).lom = s.lom := rfl
@[simp] theorem State.setRxf_art (f : Frame) : (s.setRxf f).art = s.art := rfl
@[simp] theorem State.setRxf_q (f : Frame) : (s.setRxf f).q = s.q := rfl
@[simp] theorem State.setRxf_head (f : Frame) : (s.setRxf f).head = s.head := rfl
@[simp] theorem State.setRxf_tail (f : Frame) : (s.setRxf f).tail = s.tail := rfl
@[simp] theorem State.setRxf_line (f : Frame) : (s.setRxf f).line = s.line := rfl
@[simp] theorem State.setRxf_len (f : Frame) : (s.setRxf f).len = s.len := rfl
@[simp] theorem State.setRxf_rxf (f : Frame) : (s.setRxf f).rxf = f := rfl
@[simp] theorem State.setRxf_im (f : Frame) : (s.setRxf f).im = s.im := rfl
@[simp] theorem State.setRxf_ph (f : Frame) : (s.setRxf f).ph = s.ph := rfl
@[simp] theorem State.setRxf_qfullCnt (f : Frame) : (s.setRxf f).qfullCnt = s.qfullCnt := rfl
@[simp] theorem State.setRxf_txfailCnt (f : Frame) : (s.setRxf f).txfailCnt = s.txfailCnt := rfl
@[simp] theorem State.setRxf_decStatus (f : Frame) : (s.setRxf f).decStatus = s.decStatus := rfl
@[simp] theorem State.setRxf_opening (f : Frame) : (s.setRxf f).opening = s.opening := rfl
@[simp] theorem State.setRxf_draws (f : Frame) : (s.setRxf f).draws = s.draws := rfl
@[simp] theorem State.setRxf_ctl (f : Frame) : (s.setRxf f).ctl = s.ctl := rfl
@[simp] theorem State.setRxf_inbound (f : Frame) : (s.setRxf f).inbound = s.inbound := rfl
@[simp] theorem State.setRxf_outbound (f : Frame) : (s.setRxf f).outbound = s.outbound := rfl
@[simp] theorem State.setRxf_tick (f : Frame) : (s.setRxf f).tick = s.tick := rfl
@[simp] theorem State.setRxf_schedule (f : Frame) : (s.setRxf f).schedule = s.schedule := rfl
@[simp] theorem State.setRxf_envSteps (f : Frame) : (s.setRxf f).envSteps = s.envSteps := rfl
@[simp] theorem State.setRxf_trace (f : Frame) : (s.setRxf f).trace = s.trace := rfl

/-! ### setIm -/

@[simp] theorem State.setIm_bus (b : Bool) : (s.setIm b).bus = s.bus := rfl
@[simp] theorem State.setIm_rate (b : Bool) : (s.setIm b).rate = s.rate := rfl
@[simp] theorem State.setIm_lom (b : Bool) : (s.setIm b).lom = s.lom := rfl
@[simp] theorem State.setIm_art (b : Bool) : (s.setIm b).art = s.art := rfl
@[simp] theorem State.setIm_q (b : Bool) : (s.setIm b).q = s.q := rfl
@[simp] theorem State.setIm_head (b : Bool) : (s.setIm b).head = s.head := rfl
@[simp] theorem State.setIm_tail (b : Bool) : (s.setIm b).tail = s.tail := rfl
@[simp] theorem State.setIm_line (b : Bool) : (s.setIm b).line = s.line := rfl
@[simp] theorem State.setIm_len (b : Bool) : (s.setIm b).len = s.len := rfl
@[simp] theorem State.setIm_rxf (b : Bool) : (s.setIm b).rxf = s.rxf := rfl
@[simp] theorem State.setIm_im (b : Bool) : (s.setIm b).im = b := rfl
@[simp] theorem State.setIm_ph (b : Bool) : (s.setIm b).ph = s.ph := rfl
@[simp] theorem State.setIm_qfullCnt (b : Bool) : (s.setIm b).qfullCnt = s.qfullCnt := rfl
@[simp] theorem State.setIm_txfailCnt (b : Bool) : (s.setIm b).txfailCnt = s.txfailCnt := rfl
@[simp] theorem State.setIm_decStatus (b : Bool) : (s.setIm b).decStatus = s.decStatus := rfl
@[simp] theorem State.setIm_opening (b : Bool) : (s.setIm b).opening = s.opening := rfl
@[simp] theorem State.setIm_draws (b : Bool) : (s.setIm b).draws = s.draws := rfl
@[simp] theorem State.setIm_ctl (b : Bool) : (s.setIm b).ctl = s.ctl := rfl
@[simp] theorem State.setIm_inbound (b : Bool) : (s.setIm b).inbound = s.inbound := rfl
@[simp] theorem State.setIm_outbound (b : Bool) : (s.setIm b).outbound = s.outbound := rfl
@[simp] theorem State.setIm_tick (b : Bool) : (s.setIm b).tick = s.tick := rfl
@[simp] theorem State.setIm_schedule (b : Bool) : (s.setIm b).schedule = s.schedule := rfl
@[simp] theorem State.setIm_envSteps (b : Bool) : (s.setIm b).envSteps = s.envSteps := rfl
@[simp] theorem State.setIm_trace (b : Bool) : (s.setIm b).trace = s.trace := rfl

/-! ### setPh -/

@[simp] theorem State.setPh_bus (p : Phase) : (s.setPh p).bus = s.bus := rfl
@[simp] theorem State.setPh_rate (p : Phase) : (s.setPh p).rate = s.rate := rfl
@[simp] theorem State.setPh_lom (p : Phase) : (s.setPh p).lom = s.lom := rfl
@[simp] theorem State.setPh_art (p : Phase) : (s.setPh p).art = s.art := rfl
@[simp] theorem State.setPh_q (p : Phase) : (s.setPh p).q = s.q := rfl
@[simp] theorem State.setPh_head (p : Phase) : (s.setPh p).head = s.head := rfl
@[simp] theorem State.setPh_tail (p : Phase) : (s.setPh p).tail = s.tail := rfl
@[simp] theorem State.setPh_line (p : Phase) : (s.setPh p).line = s.line := rfl
@[simp] theorem State.setPh_len (p : Phase) : (s.setPh p).len = s.len := rfl
@[simp] theorem State.setPh_rxf (p : Phase) : (s.setPh p).rxf = s.rxf := rfl
@[simp] theorem State.setPh_im (p : Phase) : (s.setPh p).im = s.im := rfl
@[simp] theorem State.setPh_ph (p : Phase) : (s.setPh p).ph = p := rfl
@[simp] theorem State.setPh_qfullCnt (p : Phase) : (s.setPh p).qfullCnt = s.qfullCnt := rfl
@[simp] theorem State.setPh_txfailCnt (p : Phase) : (s.setPh p).txfailCnt = s.txfailCnt := rfl
@[simp] theorem State.setPh_decStatus (p : Phase) : (s.setPh p).decStatus = s.decStatus := rfl
@[simp] theorem State.setPh_opening (p : Phase) : (s.setPh p).opening = s.opening := rfl
@[simp] theorem State.setPh_draws (p : Phase) : (s.setPh p).draws = s.draws := rfl
@[simp] theorem State.setPh_ctl (p : Phase) : (s.setPh p).ctl = s.ctl := rfl
@[simp] theorem State.setPh_inbound (p : Phase) : (s.setPh p).inbound = s.inbound := rfl
@[simp] theorem State.setPh_outbound (p : Phase) : (s.setPh p).outbound = s.outbound := rfl
@[simp] theorem State.setPh_tick (p : Phase) : (s.setPh p).tick = s.tick := rfl
@[simp] theorem State.setPh_schedule (p : Phase) : (s.setPh p).schedule = s.schedule := rfl
@[simp] theorem State.setPh_envSteps (p : Phase) : (s.setPh p).envSteps = s.envSteps := rfl
@[simp] theorem State.setPh_trace (p : Phase) : (s.setPh p).trace = s.trace := rfl

/-! ### bumpQfull -/

@[simp] theorem State.bumpQfull_bus : s.bumpQfull.bus = s.bus := rfl
@[simp] theorem State.bumpQfull_rate : s.bumpQfull.rate = s.rate := rfl
@[simp] theorem State.bumpQfull_lom : s.bumpQfull.lom = s.lom := rfl
@[simp] theorem State.bumpQfull_art : s.bumpQfull.art = s.art := rfl
@[simp] theorem State.bumpQfull_q : s.bumpQfull.q = s.q := rfl
@[simp] theorem State.bumpQfull_head : s.bumpQfull.head = s.head := rfl
@[simp] theorem State.bumpQfull_tail : s.bumpQfull.tail = s.tail := rfl
@[simp] theorem State.bumpQfull_line : s.bumpQfull.line = s.line := rfl
@[simp] theorem State.bumpQfull_len : s.bumpQfull.len = s.len := rfl
@[simp] theorem State.bumpQfull_rxf : s.bumpQfull.rxf = s.rxf := rfl
@[simp] theorem State.bumpQfull_im : s.bumpQfull.im = s.im := rfl
@[simp] theorem State.bumpQfull_ph : s.bumpQfull.ph = s.ph := rfl
@[simp] theorem State.bumpQfull_qfullCnt : s.bumpQfull.qfullCnt = s.qfullCnt + 1 := rfl
@[simp] theorem State.bumpQfull_txfailCnt : s.bumpQfull.txfailCnt = s.txfailCnt := rfl
@[simp] theorem State.bumpQfull_decStatus : s.bumpQfull.decStatus = s.decStatus := rfl
@[simp] theorem State.bumpQfull_opening : s.bumpQfull.opening = s.opening := rfl
@[simp] theorem State.bumpQfull_draws : s.bumpQfull.draws = s.draws := rfl
@[simp] theorem State.bumpQfull_ctl : s.bumpQfull.ctl = s.ctl := rfl
@[simp] theorem State.bumpQfull_inbound : s.bumpQfull.inbound = s.inbound := rfl
@[simp] theorem State.bumpQfull_outbound : s.bumpQfull.outbound = s.outbound := rfl
@[simp] theorem State.bumpQfull_tick : s.bumpQfull.tick = s.tick := rfl
@[simp] theorem State.bumpQfull_schedule : s.bumpQfull.schedule = s.schedule := rfl
@[simp] theorem State.bumpQfull_envSteps : s.bumpQfull.envSteps = s.envSteps := rfl
@[simp] theorem State.bumpQfull_trace : s.bumpQfull.trace = s.trace := rfl

/-! ### bumpTxfail -/

@[simp] theorem State.bumpTxfail_bus : s.bumpTxfail.bus = s.bus := rfl
@[simp] theorem State.bumpTxfail_rate : s.bumpTxfail.rate = s.rate := rfl
@[simp] theorem State.bumpTxfail_lom : s.bumpTxfail.lom = s.lom := rfl
@[simp] theorem State.bumpTxfail_art : s.bumpTxfail.art = s.art := rfl
@[simp] theorem State.bumpTxfail_q : s.bumpTxfail.q = s.q := rfl
@[simp] theorem State.bumpTxfail_head : s.bumpTxfail.head = s.head := rfl
@[simp] theorem State.bumpTxfail_tail : s.bumpTxfail.tail = s.tail := rfl
@[simp] theorem State.bumpTxfail_line : s.bumpTxfail.line = s.line := rfl
@[simp] theorem State.bumpTxfail_len : s.bumpTxfail.len = s.len := rfl
@[simp] theorem State.bumpTxfail_rxf : s.bumpTxfail.rxf = s.rxf := rfl
@[simp] theorem State.bumpTxfail_im : s.bumpTxfail.im = s.im := rfl
@[simp] theorem State.bumpTxfail_ph : s.bumpTxfail.ph = s.ph := rfl
@[simp] theorem State.bumpTxfail_qfullCnt : s.bumpTxfail.qfullCnt = s.qfullCnt := rfl
@[simp] theorem State.bumpTxfail_txfailCnt : s.bumpTxfail.txfailCnt = s.txfailCnt + 1 := rfl
@[simp] theorem State.bumpTxfail_decStatus : s.bumpTxfail.decStatus = s.decStatus := rfl
@[simp] theorem State.bumpTxfail_opening : s.bumpTxfail.opening = s.opening := rfl
@[simp] theorem State.bumpTxfail_draws : s.bumpTxfail.draws = s.draws := rfl
@[simp] theorem State.bumpTxfail_ctl : s.bumpTxfail.ctl = s.ctl := rfl
@[simp] theorem State.bumpTxfail_inbound : s.bumpTxfail.inbound = s.inbound := rfl
@[simp] theorem State.bumpTxfail_outbound : s.bumpTxfail.outbound = s.outbound := rfl
@[simp] theorem State.bumpTxfail_tick : s.bumpTxfail.tick = s.tick := rfl
@[simp] theorem State.bumpTxfail_schedule : s.bumpTxfail.schedule = s.schedule := rfl
@[simp] theorem State.bumpTxfail_envSteps : s.bumpTxfail.envSteps = s.envSteps := rfl
@[simp] theorem State.bumpTxfail_trace : s.bumpTxfail.trace = s.trace := rfl

/-! ### setStatus -/

@[simp] theorem State.setStatus_bus (st : Status) : (s.setStatus st).bus = s.bus := rfl
@[simp] theorem State.setStatus_rate (st : Status) : (s.setStatus st).rate = s.rate := rfl
@[simp] theorem State.setStatus_lom (st : Status) : (s.setStatus st).lom = s.lom := rfl
@[simp] theorem State.setStatus_art (st : Status) : (s.setStatus st).art = s.art := rfl
@[simp] theorem State.setStatus_q (st : Status) : (s.setStatus st).q = s.q := rfl
@[simp] theorem State.setStatus_head (st : Status) : (s.setStatus st).head = s.head := rfl
@[simp] theorem State.setStatus_tail (st : Status) : (s.setStatus st).tail = s.tail := rfl
@[simp] theorem State.setStatus_line (st : Status) : (s.setStatus st).line = s.line := rfl
@[simp] theorem State.setStatus_len (st : Status) : (s.setStatus st).len = s.len := rfl
@[simp] theorem State.setStatus_rxf (st : Status) : (s.setStatus st).rxf = s.rxf := rfl
@[simp] theorem State.setStatus_im (st : Status) : (s.setStatus st).im = s.im := rfl
@[simp] theorem State.setStatus_ph (st : Status) : (s.setStatus st).ph = s.ph := rfl
@[simp] theorem State.setStatus_qfullCnt (st : Status) : (s.setStatus st).qfullCnt = s.qfullCnt := rfl
@[simp] theorem State.setStatus_txfailCnt (st : Status) : (s.setStatus st).txfailCnt = s.txfailCnt := rfl
@[simp] theorem State.setStatus_decStatus (st : Status) : (s.setStatus st).decStatus = st := rfl
@[simp] theorem State.setStatus_opening (st : Status) : (s.setStatus st).opening = s.opening := rfl
@[simp] theorem State.setStatus_draws (st : Status) : (s.setStatus st).draws = s.draws := rfl
@[simp] theorem State.setStatus_ctl (st : Status) : (s.setStatus st).ctl = s.ctl := rfl
@[simp] theorem State.setStatus_inbound (st : Status) : (s.setStatus st).inbound = s.inbound := rfl
@[simp] theorem State.setStatus_outbound (st : Status) : (s.setStatus st).outbound = s.outbound := rfl
@[simp] theorem State.setStatus_tick (st : Status) : (s.setStatus st).tick = s.tick := rfl
@[simp] theorem State.setStatus_schedule (st : Status) : (s.setStatus st).schedule = s.schedule := rfl
@[simp] theorem State.setStatus_envSteps (st : Status) : (s.setStatus st).envSteps = s.envSteps := rfl
@[simp] theorem State.setStatus_trace (st : Status) : (s.setStatus st).trace = s.trace := rfl

/-! ### setOpening -/

@[simp] theorem State.setOpening_bus (b : Bool) : (s.setOpening b).bus = s.bus := rfl
@[simp] theorem State.setOpening_rate (b : Bool) : (s.setOpening b).rate = s.rate := rfl
@[simp] theorem State.setOpening_lom (b : Bool) : (s.setOpening b).lom = s.lom := rfl
@[simp] theorem State.setOpening_art (b : Bool) : (s.setOpening b).art = s.art := rfl
@[simp] theorem State.setOpening_q (b : Bool) : (s.setOpening b).q = s.q := rfl
@[simp] theorem State.setOpening_head (b : Bool) : (s.setOpening b).head = s.head := rfl
@[simp] theorem State.setOpening_tail (b : Bool) : (s.setOpening b).tail = s.tail := rfl
@[simp] theorem State.setOpening_line (b : Bool) : (s.setOpening b).line = s.line := rfl
@[simp] theorem State.setOpening_len (b : Bool) : (s.setOpening b).len = s.len := rfl
@[simp] theorem State.setOpening_rxf (b : Bool) : (s.setOpening b).rxf = s.rxf := rfl
@[simp] theorem State.setOpening_im (b : Bool) : (s.setOpening b).im = s.im := rfl
@[simp] theorem State.setOpening_ph (b : Bool) : (s.setOpening b).ph = s.ph := rfl
@[simp] theorem State.setOpening_qfullCnt (b : Bool) : (s.setOpening b).qfullCnt = s.qfullCnt := rfl
@[simp] theorem State.setOpening_txfailCnt (b : Bool) : (s.setOpening b).txfailCnt = s.txfailCnt := rfl
@[simp] theorem State.setOpening_decStatus (b : Bool) : (s.setOpening b).decStatus = s.decStatus := rfl
@[simp] theorem State.setOpening_opening (b : Bool) : (s.setOpening b).opening = b := rfl
@[simp] theorem State.setOpening_draws (b : Bool) : (s.setOpening b).draws = s.draws := rfl
@[simp] theorem State.setOpening_ctl (b : Bool) : (s.setOpening b).ctl = s.ctl := rfl
@[simp] theorem State.setOpening_inbound (b : Bool) : (s.setOpening b).inbound = s.inbound := rfl
@[simp] theorem State.setOpening_outbound (b : Bool) : (s.setOpening b).outbound = s.outbound := rfl
@[simp] theorem State.setOpening_tick (b : Bool) : (s.setOpening b).tick = s.tick := rfl
@[simp] theorem State.setOpening_schedule (b : Bool) : (s.setOpening b).schedule = s.schedule := rfl
@[simp] theorem State.setOpening_envSteps (b : Bool) : (s.setOpening b).envSteps = s.envSteps := rfl
@[simp] theorem State.setOpening_trace (b : Bool) : (s.setOpening b).trace = s.trace := rfl

/-! ### nextDraw -/

@[simp] theorem State.nextDraw_bus : s.nextDraw.bus = s.bus := rfl
@[simp] theorem State.nextDraw_rate : s.nextDraw.rate = s.rate := rfl
@[simp] theorem State.nextDraw_lom : s.nextDraw.lom = s.lom := rfl
@[simp] theorem State.nextDraw_art : s.nextDraw.art = s.art := rfl
@[simp] theorem State.nextDraw_q : s.nextDraw.q = s.q := rfl
@[simp] theorem State.nextDraw_head : s.nextDraw.head = s.head := rfl
@[simp] theorem State.nextDraw_tail : s.nextDraw.tail = s.tail := rfl
@[simp] theorem State.nextDraw_line : s.nextDraw.line = s.line := rfl
@[simp] theorem State.nextDraw_len : s.nextDraw.len = s.len := rfl
@[simp] theorem State.nextDraw_rxf : s.nextDraw.rxf = s.rxf := rfl
@[simp] theorem State.nextDraw_im : s.nextDraw.im = s.im := rfl
@[simp] theorem State.nextDraw_ph : s.nextDraw.ph = s.ph := rfl
@[simp] theorem State.nextDraw_qfullCnt : s.nextDraw.qfullCnt = s.qfullCnt := rfl
@[simp] theorem State.nextDraw_txfailCnt : s.nextDraw.txfailCnt = s.txfailCnt := rfl
@[simp] theorem State.nextDraw_decStatus : s.nextDraw.decStatus = s.decStatus := rfl
@[simp] theorem State.nextDraw_opening : s.nextDraw.opening = s.opening := rfl
@[simp] theorem State.nextDraw_draws : s.nextDraw.draws = s.draws + 1 := rfl
@[simp] theorem State.nextDraw_ctl : s.nextDraw.ctl = s.ctl := rfl
@[simp] theorem State.nextDraw_inbound : s.nextDraw.inbound = s.inbound := rfl
@[simp] theorem State.nextDraw_outbound : s.nextDraw.outbound = s.outbound := rfl
@[simp] theorem State.nextDraw_tick : s.nextDraw.tick = s.tick := rfl
@[simp] theorem State.nextDraw_schedule : s.nextDraw.schedule = s.schedule := rfl
@[simp] theorem State.nextDraw_envSteps : s.nextDraw.envSteps = s.envSteps := rfl
@[simp] theorem State.nextDraw_trace : s.nextDraw.trace = s.trace := rfl

/-! ### setCtl -/

@[simp] theorem State.setCtl_bus (c : Controller) : (s.setCtl c).bus = s.bus := rfl
@[simp] theorem State.setCtl_rate (c : Controller) : (s.setCtl c).rate = s.rate := rfl
@[simp] theorem State.setCtl_lom (c : Controller) : (s.setCtl c).lom = s.lom := rfl
@[simp] theorem State.setCtl_art (c : Controller) : (s.setCtl c).art = s.art := rfl
@[simp] theorem State.setCtl_q (c : Controller) : (s.setCtl c).q = s.q := rfl
@[simp] theorem State.setCtl_head (c : Controller) : (s.setCtl c).head = s.head := rfl
@[simp] theorem State.setCtl_tail (c : Controller) : (s.setCtl c).tail = s.tail := rfl
@[simp] theorem State.setCtl_line (c : Controller) : (s.setCtl c).line = s.line := rfl
@[simp] theorem State.setCtl_len (c : Controller) : (s.setCtl c).len = s.len := rfl
@[simp] theorem State.setCtl_rxf (c : Controller) : (s.setCtl c).rxf = s.rxf := rfl
@[simp] theorem State.setCtl_im (c : Controller) : (s.setCtl c).im = s.im := rfl
@[simp] theorem State.setCtl_ph (c : Controller) : (s.setCtl c).ph = s.ph := rfl
@[simp] theorem State.setCtl_qfullCnt (c : Controller) : (s.setCtl c).qfullCnt = s.qfullCnt := rfl
@[simp] theorem State.setCtl_txfailCnt (c : Controller) : (s.setCtl c).txfailCnt = s.txfailCnt := rfl
@[simp] theorem State.setCtl_decStatus (c : Controller) : (s.setCtl c).decStatus = s.decStatus := rfl
@[simp] theorem State.setCtl_opening (c : Controller) : (s.setCtl c).opening = s.opening := rfl
@[simp] theorem State.setCtl_draws (c : Controller) : (s.setCtl c).draws = s.draws := rfl
@[simp] theorem State.setCtl_ctl (c : Controller) : (s.setCtl c).ctl = c := rfl
@[simp] theorem State.setCtl_inbound (c : Controller) : (s.setCtl c).inbound = s.inbound := rfl
@[simp] theorem State.setCtl_outbound (c : Controller) : (s.setCtl c).outbound = s.outbound := rfl
@[simp] theorem State.setCtl_tick (c : Controller) : (s.setCtl c).tick = s.tick := rfl
@[simp] theorem State.setCtl_schedule (c : Controller) : (s.setCtl c).schedule = s.schedule := rfl
@[simp] theorem State.setCtl_envSteps (c : Controller) : (s.setCtl c).envSteps = s.envSteps := rfl
@[simp] theorem State.setCtl_trace (c : Controller) : (s.setCtl c).trace = s.trace := rfl

/-! ### setInbound -/

@[simp] theorem State.setInbound_bus (bs : List Byte) : (s.setInbound bs).bus = s.bus := rfl
@[simp] theorem State.setInbound_rate (bs : List Byte) : (s.setInbound bs).rate = s.rate := rfl
@[simp] theorem State.setInbound_lom (bs : List Byte) : (s.setInbound bs).lom = s.lom := rfl
@[simp] theorem State.setInbound_art (bs : List Byte) : (s.setInbound bs).art = s.art := rfl
@[simp] theorem State.setInbound_q (bs : List Byte) : (s.setInbound bs).q = s.q := rfl
@[simp] theorem State.setInbound_head (bs : List Byte) : (s.setInbound bs).head = s.head := rfl
@[simp] theorem State.setInbound_tail (bs : List Byte) : (s.setInbound bs).tail = s.tail := rfl
@[simp] theorem State.setInbound_line (bs : List Byte) : (s.setInbound bs).line = s.line := rfl
@[simp] theorem State.setInbound_len (bs : List Byte) : (s.setInbound bs).len = s.len := rfl
@[simp] theorem State.setInbound_rxf (bs : List Byte) : (s.setInbound bs).rxf = s.rxf := rfl
@[simp] theorem State.setInbound_im (bs : List Byte) : (s.setInbound bs).im = s.im := rfl
@[simp] theorem State.setInbound_ph (bs : List Byte) : (s.setInbound bs).ph = s.ph := rfl
@[simp] theorem State.setInbound_qfullCnt (bs : List Byte) : (s.setInbound bs).qfullCnt = s.qfullCnt := rfl
@[simp] theorem State.setInbound_txfailCnt (bs : List Byte) : (s.setInbound bs).txfailCnt = s.txfailCnt := rfl
@[simp] theorem State.setInbound_decStatus (bs : List Byte) : (s.setInbound bs).decStatus = s.decStatus := rfl
@[simp] theorem State.setInbound_opening (bs : List Byte) : (s.setInbound bs).opening = s.opening := rfl
@[simp] theorem State.setInbound_draws (bs : List Byte) : (s.setInbound bs).draws = s.draws := rfl
@[simp] theorem State.setInbound_ctl (bs : List Byte) : (s.setInbound bs).ctl = s.ctl := rfl
@[simp] theorem State.setInbound_inbound (bs : List Byte) : (s.setInbound bs).inbound = bs := rfl
@[simp] theorem State.setInbound_outbound (bs : List Byte) : (s.setInbound bs).outbound = s.outbound := rfl
@[simp] theorem State.setInbound_tick (bs : List Byte) : (s.setInbound bs).tick = s.tick := rfl
@[simp] theorem State.setInbound_schedule (bs : List Byte) : (s.setInbound bs).schedule = s.schedule := rfl
@[simp] theorem State.setInbound_envSteps (bs : List Byte) : (s.setInbound bs).envSteps = s.envSteps := rfl
@[simp] theorem State.setInbound_trace (bs : List Byte) : (s.setInbound bs).trace = s.trace := rfl

/-! ### appendOut -/

@[simp] theorem State.appendOut_bus (bs : List Byte) : (s.appendOut bs).bus = s.bus := rfl
@[simp] theorem State.appendOut_rate (bs : List Byte) : (s.appendOut bs).rate = s.rate := rfl
@[simp] theorem State.appendOut_lom (bs : List Byte) : (s.appendOut bs).lom = s.lom := rfl
@[simp] theorem State.appendOut_art (bs : List Byte) : (s.appendOut bs).art = s.art := rfl
@[simp] theorem State.appendOut_q (bs : List Byte) : (s.appendOut bs).q = s.q := rfl
@[simp] theorem State.appendOut_head (bs : List Byte) : (s.appendOut bs).head = s.head := rfl
@[simp] theorem State.appendOut_tail (bs : List Byte) : (s.appendOut bs).tail = s.tail := rfl
@[simp] theorem State.appendOut_line (bs : List Byte) : (s.appendOut bs).line = s.line := rfl
@[simp] theorem State.appendOut_len (bs : List Byte) : (s.appendOut bs).len = s.len := rfl
@[simp] theorem State.appendOut_rxf (bs : List Byte) : (s.appendOut bs).rxf = s.rxf := rfl
@[simp] theorem State.appendOut_im (bs : List Byte) : (s.appendOut bs).im = s.im := rfl
@[simp] theorem State.appendOut_ph (bs : List Byte) : (s.appendOut bs).ph = s.ph := rfl
@[simp] theorem State.appendOut_qfullCnt (bs : List Byte) : (s.appendOut bs).qfullCnt = s.qfullCnt := rfl
@[simp] theorem State.appendOut_txfailCnt (bs : List Byte) : (s.appendOut bs).txfailCnt = s.txfailCnt := rfl
@[simp] theorem State.appendOut_decStatus (bs : List Byte) : (s.appendOut bs).decStatus = s.decStatus := rfl
@[simp] theorem State.appendOut_opening (bs : List Byte) : (s.appendOut bs).opening = s.opening := rfl
@[simp] theorem State.appendOut_draws (bs : List Byte) : (s.appendOut bs).draws = s.draws := rfl
@[simp] theorem State.appendOut_ctl (bs : List Byte) : (s.appendOut bs).ctl = s.ctl := rfl
@[simp] theorem State.appendOut_inbound (bs : List Byte) : (s.appendOut bs).inbound = s.inbound := rfl
@[simp] theorem State.appendOut_outbound (bs : List Byte) : (s.appendOut bs).outbound = s.outbound ++ bs := rfl
@[simp] theorem State.appendOut_tick (bs : List Byte) : (s.appendOut bs).tick = s.tick := rfl
@[simp] theorem State.appendOut_schedule (bs : List Byte) : (s.appendOut bs).schedule = s.schedule := rfl
@[simp] theorem State.appendOut_envSteps (bs : List Byte) : (s.appendOut bs).envSteps = s.envSteps := rfl
@[simp] theorem State.appendOut_trace (bs : List Byte) : (s.appendOut bs).trace = s.trace := rfl

/-! ### log -/

@[simp] theorem State.log_bus (e : PortEvent) : (s.log e).bus = s.bus := rfl
@[simp] theorem State.log_rate (e : PortEvent) : (s.log e).rate = s.rate := rfl
@[simp] theorem State.log_lom (e : PortEvent) : (s.log e).lom = s.lom := rfl
@[simp] theorem State.log_art (e : PortEvent) : (s.log e).art = s.art := rfl
@[simp] theorem State.log_q (e : PortEvent) : (s.log e).q = s.q := rfl
@[simp] theorem State.log_head (e : PortEvent) : (s.log e).head = s.head := rfl
@[simp] theorem State.log_tail (e : PortEvent) : (s.log e).tail = s.tail := rfl
@[simp] theorem State.log_line (e : PortEvent) : (s.log e).line = s.line := rfl
@[simp] theorem State.log_len (e : PortEvent) : (s.log e).len = s.len := rfl
@[simp] theorem State.log_rxf (e : PortEvent) : (s.log e).rxf = s.rxf := rfl
@[simp] theorem State.log_im (e : PortEvent) : (s.log e).im = s.im := rfl
@[simp] theorem State.log_ph (e : PortEvent) : (s.log e).ph = s.ph := rfl
@[simp] theorem State.log_qfullCnt (e : PortEvent) : (s.log e).qfullCnt = s.qfullCnt := rfl
@[simp] theorem State.log_txfailCnt (e : PortEvent) : (s.log e).txfailCnt = s.txfailCnt := rfl
@[simp] theorem State.log_decStatus (e : PortEvent) : (s.log e).decStatus = s.decStatus := rfl
@[simp] theorem State.log_opening (e : PortEvent) : (s.log e).opening = s.opening := rfl
@[simp] theorem State.log_draws (e : PortEvent) : (s.log e).draws = s.draws := rfl
@[simp] theorem State.log_ctl (e : PortEvent) : (s.log e).ctl = s.ctl := rfl
@[simp] theorem State.log_inbound (e : PortEvent) : (s.log e).inbound = s.inbound := rfl
@[simp] theorem State.log_outbound (e : PortEvent) : (s.log e).outbound = s.outbound := rfl
@[simp] theorem State.log_tick (e : PortEvent) : (s.log e).tick = s.tick := rfl
@[simp] theorem State.log_schedule (e : PortEvent) : (s.log e).schedule = s.schedule := rfl
@[simp] theorem State.log_envSteps (e : PortEvent) : (s.log e).envSteps = s.envSteps := rfl
@[simp] theorem State.log_trace (e : PortEvent) : (s.log e).trace = s.trace ++ [e] := rfl

end Sys2Proof.Machine
end

