-- ==== Sys2Proof/Laws/Ops.lean ====
section
/-! SUPPORT. One lemma for each shared operation that says all it can do: the whole next state, or the cases of it. Later proofs
cite these and do not unfold the operation. -/

namespace Sys2Proof.Machine

/-! ### Failures -/

@[simp] theorem raise_configRejected (s : State) : raise .configRejected s = s := rfl
@[simp] theorem raise_queueFull (s : State) : raise .queueFull s = s.bumpQfull := rfl
@[simp] theorem raise_hwWriteRejected (s : State) : raise .hwWriteRejected s = s.bumpTxfail := rfl
@[simp] theorem raise_parseError (s : State) : raise .parseError s = s.setStatus .fail := rfl
@[simp] theorem raise_lineOverflow (s : State) : raise .lineOverflow s = s := rfl

/-! ### Bus state machine -/

theorem enable_onBus {s : State} (h : s.bus = .onBus) : enable s = s := by simp [enable, h]

theorem enable_offBus {s : State} (h : s.bus = .offBus) : enable s = enableWait (enableBegin s) := by simp [enable, h]

theorem enableBegin_eq (s : State) :
    enableBegin s = { s with
      opening := true
      ctl := { s.ctl with timing := Config.timing s.rate }
      trace := s.trace ++ [.applyTiming (Config.timing s.rate), .resetConfigureUnfreeze s.lom] } := by
  simp [enableBegin, ctlResetConfigureBegin, ctlApplyTiming, State.log, State.setCtl, State.setOpening]

theorem enableFinish_eq (s : State) :
    enableFinish s = { s with
      bus := .onBus
      opening := false
      ctl := { s.ctl with listenOnly := s.lom, frozen := false, masked := false, filterArmed := true }
      trace := s.trace ++ [.armFilter, .busUp] } := by
  simp [enableFinish, ctlResetConfigureEnd, ctlArmFilter, indBusUp, State.log, State.setCtl, State.setOpening, State.setBus]

theorem enableWait_ready {s : State} (h : s.ctl.ready = true) : enableWait s = enableFinish s := by simp [enableWait, h]

theorem enableWait_notReady {s : State} (h : s.ctl.ready = false) : enableWait s = s := by simp [enableWait, h]

theorem disable_offBus {s : State} (h : s.bus = .offBus) : disable s = s := by simp [disable, h]

theorem disable_onBus {s : State} (h : s.bus = .onBus) :
    disable s = { s with
      bus := .offBus
      ctl := { s.ctl with masked := true }
      trace := s.trace ++ [.mask, .busDown] } := by
  simp [disable, h, ctlMask, indBusDown, State.log, State.setCtl, State.setBus]

/-! ### Setters -/

theorem setBitrate_onBus {s : State} (sel : Nat) (h : s.bus = .onBus) : setBitrate sel s = s := by simp [setBitrate, h]
theorem setBitrate_offBus {s : State} (sel : Nat) (h : s.bus = .offBus) : setBitrate sel s = s.setRate (rateOf sel) := by
  simp [setBitrate, h]
theorem setListenOnly_onBus {s : State} (b : Bool) (h : s.bus = .onBus) : setListenOnly b s = s := by simp [setListenOnly, h]
theorem setListenOnly_offBus {s : State} (b : Bool) (h : s.bus = .offBus) : setListenOnly b s = s.setLom b := by
  simp [setListenOnly, h]
theorem setAutoretransmit_onBus {s : State} (b : Bool) (h : s.bus = .onBus) : setAutoretransmit b s = s := by
  simp [setAutoretransmit, h]
theorem setAutoretransmit_offBus {s : State} (b : Bool) (h : s.bus = .offBus) : setAutoretransmit b s = s.setArt b := by
  simp [setAutoretransmit, h]

/-- The rate of every selector, written out (R126). -/
theorem rateOf_eq (sel : Nat) : rateOf sel =
    ([10000#20, 20000#20, 50000#20, 100000#20, 125000#20, 250000#20, 500000#20, 750000#20, 1000000#20] : List Rate).getD sel
      1000000#20 := by
  by_cases h : sel < 9
  · have h' : sel < Config.nRates := h
    rw [rateOf, if_pos h']
    rfl
  · have h' : ¬ sel < Config.nRates := h
    rw [rateOf, if_neg h', List.getD_eq_default _ _ (by simp; omega)]
    rfl

/-! ### Ring and dispatcher -/

theorem ringNext_val (i : Fin Config.ringSlots) : (ringNext i).val = (i.val + 1) % 28 := by
  simp [ringNext, Fin.val_add]

theorem ringPush_eq (f : Frame) (s : State) :
    ringPush f s = { s with q := s.q.set s.head f, head := ringNext s.head } := rfl

theorem ringPop_eq (s : State) : ringPop s = { s with tail := ringNext s.tail } := rfl

theorem transmitEnqueue_full {s : State} (f : Frame) (h : ringFull s = true) : transmitEnqueue f s = s.bumpQfull := by
  simp [transmitEnqueue, h]

theorem transmitEnqueue_room {s : State} (f : Frame) (h : ringFull s = false) : transmitEnqueue f s = ringPush f s := by
  simp [transmitEnqueue, h]

/-- Everything `service_transmit` can do. -/
theorem serviceTransmit_cases (s : State) :
    (ringEmpty s = true ∧ serviceTransmit s = s) ∨
    (ringEmpty s = false ∧ s.ctl.txip = true ∧ serviceTransmit s = { s with trace := s.trace ++ [.txip true] }) ∨
    (ringEmpty s = false ∧ s.ctl.txip = false ∧ s.ctl.accepts = true ∧ serviceTransmit s = { s with
      tail := ringNext s.tail
      ctl := { s.ctl with txMailbox := s.q[s.tail] }
      trace := s.trace ++ [.txip false, .submit s.q[s.tail] true] }) ∨
    (ringEmpty s = false ∧ s.ctl.txip = false ∧ s.ctl.accepts = false ∧ serviceTransmit s = { s with
      tail := ringNext s.tail
      txfailCnt := s.txfailCnt + 1
      trace := s.trace ++ [.txip false, .submit s.q[s.tail] false] }) := by
  cases he : ringEmpty s <;> cases ht : s.ctl.txip <;> cases ha : s.ctl.accepts <;>
    simp [serviceTransmit, he, ht, ha, ctlTxip, submitPopped, ctlSubmit, ringPop, State.log, State.setTail, State.setCtl,
      State.bumpTxfail]

/-! ### Receive path -/

theorem receivePending_offBus {s : State} (h : s.bus = .offBus) : receivePending s = false := by simp [receivePending, h]
theorem receivePending_onBus {s : State} (h : s.bus = .onBus) : receivePending s = s.ctl.fav := by simp [receivePending, h]
theorem consultPending_offBus {s : State} (h : s.bus = .offBus) : consultPending s = s := by simp [consultPending, h]
theorem consultPending_onBus {s : State} (h : s.bus = .onBus) :
    consultPending s = { s with trace := s.trace ++ [.fav s.ctl.fav] } := by simp [consultPending, h, ctlFav, State.log]

/-- A pending frame exists exactly when the bus is open and FAV is set. -/
theorem receivePending_iff (s : State) : receivePending s = true ↔ s.bus = .onBus ∧ s.ctl.fav = true := by
  cases h : s.bus <;> simp [receivePending, h]

theorem receiveDrain_pending {s : State} (h : receivePending s = true) :
    receiveDrain s = { s with
      rxf := s.ctl.rxMailbox
      ctl := { s.ctl with rxLatch := true, fav := false }
      trace := s.trace ++ [.rxRead s.ctl.rxMailbox, .rxClear] } := by
  simp [receiveDrain, h, drainedFrame, ctlRxClear, ctlRxRead, State.log, State.setCtl, State.setRxf]

theorem receiveDrain_spurious {s : State} (h : receivePending s = false) :
    receiveDrain s = { s with
      rxf := Config.freeFrame s.draws
      draws := s.draws + 1
      ctl := { s.ctl with rxLatch := true, fav := false }
      trace := s.trace ++ [.rxRead (Config.freeFrame s.draws), .rxClear] } := by
  simp [receiveDrain, h, drainedFrame, ctlRxClear, ctlRxRead, State.log, State.setCtl, State.setRxf, State.nextDraw]

/-- P4, everything it can do. -/
theorem stepReceive_cases (s : State) :
    (s.bus = .offBus ∧ stepReceive s = .next { s with ph := .p1Input }) ∨
    (s.bus = .onBus ∧ s.ctl.fav = false ∧
      stepReceive s = .next { s with ph := .p1Input, trace := s.trace ++ [.fav false] }) ∨
    (s.bus = .onBus ∧ s.ctl.fav = true ∧ frameLenOk s.ctl.rxMailbox = true ∧ stepReceive s = .next { s with
      ph := .p1Input
      rxf := s.ctl.rxMailbox
      ctl := { s.ctl with rxLatch := true, fav := false }
      outbound := s.outbound ++ outboundLine s.ctl.rxMailbox
      trace := s.trace ++ [.fav true, .rxRead s.ctl.rxMailbox, .rxClear, .outWrite (outboundLine s.ctl.rxMailbox)] }) ∨
    (s.bus = .onBus ∧ s.ctl.fav = true ∧ frameLenOk s.ctl.rxMailbox = false ∧
      stepReceive s = .refused .receivedLengthAbove8) := by
  cases hb : s.bus <;> cases hf : s.ctl.fav <;> cases hl : frameLenOk s.ctl.rxMailbox <;>
    simp [stepReceive, receivePending, hb, hf, hl, encodeFrame, drainedFrame, consultPending, ctlFav, receiveDrain,
      ctlRxClear, ctlRxRead, writeEncoded, outWrite, outboundLine, State.log, State.setCtl, State.setRxf, State.setPh,
      State.appendOut]

/-! ### Line buffer and accumulator -/

theorem appendByte_room {s : State} (b : Byte) (h : s.len.val < Config.lineCap) :
    appendByte b s = { s with line := s.line.set s.len.val b, len := Fin.ofNat 31 (s.len.val + 1) } := by
  have : (⟨s.len.val, h⟩ : Fin Config.lineCap).succ = Fin.ofNat 31 (s.len.val + 1) := by
    have h' : s.len.val < 30 := h
    ext
    show s.len.val + 1 = (s.len.val + 1) % 31
    omega
  simp [appendByte, h, nextIndex, storeByte, State.setLine, State.setLen]
  exact this

theorem appendByte_full {s : State} (b : Byte) (h : s.len.val = Config.lineCap) :
    appendByte b s = { s with line := s.line.set 0 b, len := 1 } := by
  simp [appendByte, h, nextIndex, storeByte, State.setLine, State.setLen]

@[simp] theorem length_lineBytes (s : State) : (lineBytes s).length = s.len.val := by
  have := s.len.isLt
  simp [lineBytes]; omega

theorem convertLine_get (s : State) (p : Fin Config.lineCap) :
    (convertLine s).line[p] =
      if 1 ≤ p.val ∧ p.val < s.len.val then convertChar s.draws p.val s.line[p] else s.line[p] := by
  simp [convertLine]

/-! ### The decoder's conversion pass: LINE and the draw counter, and no other field -/

section
variable (s : State)
@[simp] theorem beginDecode_bus : (beginDecode s).bus = s.bus := by simp [beginDecode, convertLine]
@[simp] theorem beginDecode_rate : (beginDecode s).rate = s.rate := by simp [beginDecode, convertLine]
@[simp] theorem beginDecode_lom : (beginDecode s).lom = s.lom := by simp [beginDecode, convertLine]
@[simp] theorem beginDecode_art : (beginDecode s).art = s.art := by simp [beginDecode, convertLine]
@[simp] theorem beginDecode_q : (beginDecode s).q = s.q := by simp [beginDecode, convertLine]
@[simp] theorem beginDecode_head : (beginDecode s).head = s.head := by simp [beginDecode, convertLine]
@[simp] theorem beginDecode_tail : (beginDecode s).tail = s.tail := by simp [beginDecode, convertLine]
@[simp] theorem beginDecode_len : (beginDecode s).len = s.len := by simp [beginDecode, convertLine]
@[simp] theorem beginDecode_rxf : (beginDecode s).rxf = s.rxf := by simp [beginDecode, convertLine]
@[simp] theorem beginDecode_im : (beginDecode s).im = s.im := by simp [beginDecode, convertLine]
@[simp] theorem beginDecode_ph : (beginDecode s).ph = s.ph := by simp [beginDecode, convertLine]
@[simp] theorem beginDecode_qfullCnt : (beginDecode s).qfullCnt = s.qfullCnt := by simp [beginDecode, convertLine]
@[simp] theorem beginDecode_txfailCnt : (beginDecode s).txfailCnt = s.txfailCnt := by simp [beginDecode, convertLine]
@[simp] theorem beginDecode_decStatus : (beginDecode s).decStatus = s.decStatus := by simp [beginDecode, convertLine]
@[simp] theorem beginDecode_opening : (beginDecode s).opening = s.opening := by simp [beginDecode, convertLine]
@[simp] theorem beginDecode_ctl : (beginDecode s).ctl = s.ctl := by simp [beginDecode, convertLine]
@[simp] theorem beginDecode_inbound : (beginDecode s).inbound = s.inbound := by simp [beginDecode, convertLine]
@[simp] theorem beginDecode_outbound : (beginDecode s).outbound = s.outbound := by simp [beginDecode, convertLine]
@[simp] theorem beginDecode_tick : (beginDecode s).tick = s.tick := by simp [beginDecode, convertLine]
@[simp] theorem beginDecode_schedule : (beginDecode s).schedule = s.schedule := by simp [beginDecode, convertLine]
@[simp] theorem beginDecode_envSteps : (beginDecode s).envSteps = s.envSteps := by simp [beginDecode, convertLine]
@[simp] theorem beginDecode_trace : (beginDecode s).trace = s.trace := by simp [beginDecode, convertLine]
@[simp] theorem beginDecode_line : (beginDecode s).line = (convertLine s).line := by simp [beginDecode]
@[simp] theorem beginDecode_draws : (beginDecode s).draws = s.draws + 1 := by simp [beginDecode, convertLine]
end

end Sys2Proof.Machine
end

