-- ==== Sys2Proof/Laws/Exec.lean ====
section
/-! SUPPORT. The inversion of a command: everything `exec` can do, whatever the command. -/

namespace Sys2Proof.Machine

theorem frameLenOk_iff (f : Frame) : frameLenOk f = true ↔ f.len.toNat ≤ 8 := by
  rw [frameLenOk, decide_eq_true_iff, Config.dlcMax]

theorem lengthLegal_iff (len8 : Byte) : lengthLegal len8 = true ↔ len8.toNat ≤ 8 := by
  rw [lengthLegal, decide_eq_true_iff, Config.dlcMax]

theorem selectorLegal_iff (d : Byte) : selectorLegal d = true ↔ d.toNat < 9 := by
  rw [selectorLegal, decide_eq_true_iff, Config.nRates]

/-- A legal length byte gives a frame with a legal length (R97, R22). -/
theorem commandFrame_lenOk (ext rtr : Bool) (id : BitVec 32) (len8 : Byte) (data : Vector Byte 8)
    (h : lengthLegal len8 = true) : frameLenOk (commandFrame ext rtr id len8 data) = true := by
  rw [lengthLegal_iff] at h
  rw [frameLenOk_iff]
  show (len8.setWidth 4).toNat ≤ 8
  rw [BitVec.toNat_setWidth]
  omega

/-- What one command can do to the state, all cases of all twelve. -/
inductive ExecCase (s : State) : Instr → State → Prop where
  /-- Only the status: a no-op, a silent rejection, a parse failure. -/
  | status (i : Instr) (st : Status) : ExecCase s i (s.setStatus st)
  /-- `S` on a closed bus. -/
  | rate (d : Byte) (sel : Nat) : s.bus = .offBus → sel < 9 → ExecCase s (.setBitrate d) ((s.setRate (rateOf sel)).setStatus .ok)
  /-- `m` or `M` on a closed bus. -/
  | lom (i : Instr) (b : Bool) : s.bus = .offBus → ExecCase s i ((s.setLom b).setStatus .ok)
  /-- `a` or `A` on a closed bus. -/
  | art (i : Instr) (b : Bool) : s.bus = .offBus → ExecCase s i ((s.setArt b).setStatus .ok)
  /-- `O` with the controller ready. -/
  | opened : s.bus = .offBus → s.ctl.ready = true →
      ExecCase s .openBus ((enableFinish (enableBegin s)).setStatus .ok)
  /-- `O` waiting. -/
  | waits : s.bus = .offBus → s.ctl.ready = false → ExecCase s .openBus (enableBegin s)
  /-- `C` on an open bus. -/
  | closed : s.bus = .onBus → ExecCase s .closeBus ((disable s).setStatus .ok)
  /-- `O` on an open bus inside a wait: no run reaches it. -/
  | still : s.bus = .onBus → s.opening = true → ExecCase s .openBus s
  /-- A frame command with a free slot. -/
  | enqueued (i : Instr) (f : Frame) : ringFull s = false → frameLenOk f = true →
      ExecCase s i ((ringPush f s).setStatus .ok)
  /-- A frame command on a full ring. -/
  | full (i : Instr) (st : Status) : ringFull s = true → ExecCase s i ((s.bumpQfull.setStatus st).nextDraw)

theorem parseFrame_case (i : Instr) (ext rtr : Bool) (id : BitVec 32) (len8 : Byte) (data : Vector Byte 8) (s : State) :
    ExecCase s i (parseFrame ext rtr id len8 data s) := by
  unfold parseFrame
  split
  · rename_i hl
    unfold queueFrame
    cases hf : ringFull s
    · simpa [transmitEnqueue_room _ hf, returnOk] using ExecCase.enqueued i _ hf (commandFrame_lenOk ext rtr id len8 data hl)
    · simpa [transmitEnqueue_full _ hf, returnOnQueueFull] using ExecCase.full i _ hf
  · exact .status i .fail

/-- The inversion of `exec`. -/
theorem exec_inv (i : Instr) (s : State) : ∃ t, exec i s = .next t ∧ ExecCase s i t := by
  cases i with
  | openBus =>
    refine ⟨_, rfl, ?_⟩
    cases hb : s.bus
    · rw [enable_offBus hb]
      have hr : (enableBegin s).ctl.ready = s.ctl.ready := by rw [enableBegin_eq]
      cases h : s.ctl.ready
      · rw [enableWait_notReady (hr.trans h), openReturn]
        simpa [enableBegin_eq] using ExecCase.waits hb h
      · rw [enableWait_ready (hr.trans h), openReturn]
        simpa [enableFinish_eq, returnOk] using ExecCase.opened hb h
    · rw [enable_onBus hb]
      cases ho : s.opening <;> simp only [openReturn, ho]
      · exact .status _ _
      · exact .still hb ho
  | closeBus =>
    refine ⟨_, rfl, ?_⟩
    cases hb : s.bus
    · rw [disable_offBus hb]; exact .status _ _
    · exact .closed hb
  | setBitrate d =>
    refine ⟨_, rfl, ?_⟩
    split
    · rename_i hd
      cases hb : s.bus
      · rw [setBitrate_offBus _ hb]; exact .rate d _ hb ((selectorLegal_iff d).1 hd)
      · rw [setBitrate_onBus _ hb]; exact .status _ _
    · exact .status _ _
  | setModeLower d | setModeUpper d =>
    refine ⟨_, rfl, ?_⟩
    cases hb : s.bus
    · rw [setListenOnly_offBus _ hb]; exact .lom _ _ hb
    · rw [setListenOnly_onBus _ hb]; exact .status _ _
  | setAutoLower d | setAutoUpper d =>
    refine ⟨_, rfl, ?_⟩
    cases hb : s.bus
    · rw [setAutoretransmit_offBus _ hb]; exact .art _ _ hb
    · rw [setAutoretransmit_onBus _ hb]; exact .status _ _
  | version => exact ⟨_, rfl, .status _ _⟩
  | dataStd id len8 data => exact ⟨_, rfl, parseFrame_case _ _ _ _ _ _ _⟩
  | dataExt id len8 data => exact ⟨_, rfl, parseFrame_case _ _ _ _ _ _ _⟩
  | remoteStd id len8 data => exact ⟨_, rfl, parseFrame_case _ _ _ _ _ _ _⟩
  | remoteExt id len8 data => exact ⟨_, rfl, parseFrame_case _ _ _ _ _ _ _⟩

/-- The inversion, from an answer. -/
theorem exec_next_inv {i : Instr} {s t : State} (h : exec i s = .next t) : ExecCase s i t := by
  obtain ⟨u, hu, hc⟩ := exec_inv i s
  rw [hu] at h
  cases h
  exact hc

end Sys2Proof.Machine
end

