-- ==== Sys2Proof/Laws/PerInstr.lean ====
section
/-! SUPPORT. The one family of statements about every command as syntax: its line fits the line buffer and holds no terminator, so
that the accumulator neither loses it nor ends it early (spec/30_encoding.md R90, R92, spec/43_poll_loop.md R202). -/

namespace Sys2Proof.Laws.EncodeFits

/-- The command's line has at most 26 bytes, and none of them is the terminator. -/
def Statement (i : Instr) : Prop := (encode i).length ≤ longestLine ∧ ∀ b ∈ encode i, b ≠ Config.term

/-- The one-digit formats. -/
theorem digitLine {op : Byte} (hop : op ≠ Config.term) (d : Byte) :
    [op, digitChar d].length ≤ longestLine ∧ ∀ b ∈ [op, digitChar d], b ≠ Config.term := by
  refine ⟨by simp [longestLine_eq], ?_⟩
  simpa using ⟨hop, hexchar_ne_term _⟩

/-- The frame formats. -/
theorem frameLine {op : Byte} (hop : op ≠ Config.term) {count : Nat} (hc : count ≤ 8) (id : BitVec 32) (len8 : Byte)
    (data : Vector Byte 8) :
    (op :: (idChars count id ++ digitChar len8 :: dataChars data)).length ≤ longestLine ∧
    ∀ b ∈ op :: (idChars count id ++ digitChar len8 :: dataChars data), b ≠ Config.term := by
  constructor
  · simp [longestLine_eq]; omega
  · intro b hb
    rcases List.mem_cons.1 hb with rfl | hb
    · exact hop
    rcases List.mem_append.1 hb with hb | hb
    · exact idChars_ne_term b hb
    rcases List.mem_cons.1 hb with rfl | hb
    · exact hexchar_ne_term _
    · exact dataChars_ne_term b hb

theorem openBus : Statement .openBus := by unfold Statement; decide
theorem closeBus : Statement .closeBus := by unfold Statement; decide
theorem setBitrate (d : Byte) : Statement (.setBitrate d) := digitLine (by decide) d
theorem setModeLower (d : Byte) : Statement (.setModeLower d) := digitLine (by decide) d
theorem setModeUpper (d : Byte) : Statement (.setModeUpper d) := digitLine (by decide) d
theorem setAutoLower (d : Byte) : Statement (.setAutoLower d) := digitLine (by decide) d
theorem setAutoUpper (d : Byte) : Statement (.setAutoUpper d) := digitLine (by decide) d
theorem version : Statement .version := by unfold Statement; decide
theorem dataStd (id : BitVec 32) (len8 : Byte) (data : Vector Byte 8) : Statement (.dataStd id len8 data) :=
  frameLine (by decide) (by decide) id len8 data
theorem dataExt (id : BitVec 32) (len8 : Byte) (data : Vector Byte 8) : Statement (.dataExt id len8 data) :=
  frameLine (by decide) (by decide) id len8 data
theorem remoteStd (id : BitVec 32) (len8 : Byte) (data : Vector Byte 8) : Statement (.remoteStd id len8 data) :=
  frameLine (by decide) (by decide) id len8 data
theorem remoteExt (id : BitVec 32) (len8 : Byte) (data : Vector Byte 8) : Statement (.remoteExt id len8 data) :=
  frameLine (by decide) (by decide) id len8 data

end Sys2Proof.Laws.EncodeFits
end

