-- ==== Sys2Proof/Laws/Step.lean ====
section
/-! SUPPORT. The inversion of a step: what the environment's move does, and every case of the sequencer's. -/

namespace Sys2Proof.Machine

/-! ### The environment's move -/

/-- The environment's move as one record update. -/
theorem envStep_eq (s : State) : envStep s = { s with
    ctl := (envNext s).ctl
    inbound := s.inbound ++ (envNext s).bytes
    tick := if s.im then s.tick else s.tick + (envNext s).ticks
    schedule := s.schedule.tail
    envSteps := if s.schedule.isEmpty then s.envSteps + 1 else s.envSteps } := by
  cases hs : s.schedule <;> cases hi : s.im <;> simp [envStep, serviceTick, envConsume, hs, hi]

section
variable (s : State)
@[simp] theorem envStep_bus : (envStep s).bus = s.bus := by rw [envStep_eq]
@[simp] theorem envStep_rate : (envStep s).rate = s.rate := by rw [envStep_eq]
@[simp] theorem envStep_lom : (envStep s).lom = s.lom := by rw [envStep_eq]
@[simp] theorem envStep_art : (envStep s).art = s.art := by rw [envStep_eq]
@[simp] theorem envStep_q : (envStep s).q = s.q := by rw [envStep_eq]
@[simp] theorem envStep_head : (envStep s).head = s.head := by rw [envStep_eq]
@[simp] theorem envStep_tail : (envStep s).tail = s.tail := by rw [envStep_eq]
@[simp] theorem envStep_line : (envStep s).line = s.line := by rw [envStep_eq]
@[simp] theorem envStep_len : (envStep s).len = s.len := by rw [envStep_eq]
@[simp] theorem envStep_rxf : (envStep s).rxf = s.rxf := by rw [envStep_eq]
@[simp] theorem envStep_im : (envStep s).im = s.im := by rw [envStep_eq]
@[simp] theorem envStep_ph : (envStep s).ph = s.ph := by rw [envStep_eq]
@[simp] theorem envStep_qfullCnt : (envStep s).qfullCnt = s.qfullCnt := by rw [envStep_eq]
@[simp] theorem envStep_txfailCnt : (envStep s).txfailCnt = s.txfailCnt := by rw [envStep_eq]
@[simp] theorem envStep_decStatus : (envStep s).decStatus = s.decStatus := by rw [envStep_eq]
@[simp] theorem envStep_opening : (envStep s).opening = s.opening := by rw [envStep_eq]
@[simp] theorem envStep_draws : (envStep s).draws = s.draws := by rw [envStep_eq]
@[simp] theorem envStep_outbound : (envStep s).outbound = s.outbound := by rw [envStep_eq]
@[simp] theorem envStep_trace : (envStep s).trace = s.trace := by rw [envStep_eq]
end

/-! ### The sequencer's step -/

/-- The state in which a byte of P1 has been taken. -/
def tookByte (b : Byte) (rest : List Byte) (s : State) : State :=
  { s with im := true, inbound := rest, trace := s.trace ++ [.inAvail true, .inPop b] }

/-- Everything one step of the sequencer can do when it answers a next state. -/
inductive SeqCase (s : State) : State → Prop where
  /-- Inside `enable()`, the controller not ready. -/
  | waits : s.ph = .p1Input → s.opening = true → s.ctl.ready = false → SeqCase s s
  /-- Inside `enable()`, the controller ready. -/
  | finishes : s.ph = .p1Input → s.opening = true → s.ctl.ready = true →
      SeqCase s (((enableFinish s).setStatus .ok).setLen 0)
  /-- No byte left: P1 ends. -/
  | endsInput : s.ph = .p1Input → s.opening = false → s.inbound = [] →
      SeqCase s { s with im := false, ph := .p2Led, trace := s.trace ++ [.inAvail false] }
  /-- A byte that is no terminator. -/
  | appends (b : Byte) (rest : List Byte) : s.ph = .p1Input → s.opening = false → s.inbound = b :: rest → b ≠ Config.term →
      SeqCase s (appendByte b (tookByte b rest s))
  /-- A terminator, and the line is a command. -/
  | commands (rest : List Byte) (i : Instr) (t : State) : s.ph = .p1Input → s.opening = false →
      s.inbound = Config.term :: rest → decode s.draws (lineBytes s) = .ok i →
      ExecCase (beginDecode (tookByte Config.term rest s)) i t → SeqCase s (resetLine t)
  /-- A terminator, and the line is none. -/
  | rejects (rest : List Byte) (r : Reject) : s.ph = .p1Input → s.opening = false → s.inbound = Config.term :: rest →
      decode s.draws (lineBytes s) = .error r →
      SeqCase s (((beginDecode (tookByte Config.term rest s)).setStatus .fail).setLen 0)
  /-- P2. -/
  | led : s.ph = .p2Led → SeqCase s { s with ph := .p3TxSvc }
  /-- P3. -/
  | transmits : s.ph = .p3TxSvc → SeqCase s ((serviceTransmit s).setPh .p4RxSvc)
  /-- P4 with the bus closed. -/
  | receivesOff : s.ph = .p4RxSvc → s.bus = .offBus → SeqCase s { s with ph := .p1Input }
  /-- P4 with FAV clear. -/
  | receivesNone : s.ph = .p4RxSvc → s.bus = .onBus → s.ctl.fav = false →
      SeqCase s { s with ph := .p1Input, trace := s.trace ++ [.fav false] }
  /-- P4 with a frame pending. -/
  | receives : s.ph = .p4RxSvc → s.bus = .onBus → s.ctl.fav = true → frameLenOk s.ctl.rxMailbox = true →
      SeqCase s { s with
        ph := .p1Input
        rxf := s.ctl.rxMailbox
        ctl := { s.ctl with rxLatch := true, fav := false }
        outbound := s.outbound ++ outboundLine s.ctl.rxMailbox
        trace := s.trace ++ [.fav true, .rxRead s.ctl.rxMailbox, .rxClear, .outWrite (outboundLine s.ctl.rxMailbox)] }

theorem stepInput_taken {s : State} {b : Byte} {rest : List Byte} (ho : s.opening = false) (hi : s.inbound = b :: rest) :
    stepInput s = accumulate b (tookByte b rest s) := by
  simp [stepInput, ho, drainInput, hi, inPop, inAvail, State.log, State.setIm, State.setInbound, tookByte]

/-- The inversion of the sequencer's step: a next state is one of the cases, and the only stop is P4's refusal. -/
theorem sequencerStep_inv (s : State) :
    (∃ t, sequencerStep s = .next t ∧ SeqCase s t) ∨
    (sequencerStep s = .refused .receivedLengthAbove8 ∧ s.ph = .p4RxSvc ∧ s.bus = .onBus ∧ s.ctl.fav = true ∧
      frameLenOk s.ctl.rxMailbox = false) := by
  cases hp : s.ph
  · left
    simp only [sequencerStep, hp]
    cases ho : s.opening
    · cases hi : s.inbound with
      | nil =>
        refine ⟨_, ?_, .endsInput hp ho hi⟩
        simp [stepInput, ho, drainInput, hi, inAvail, endInput, State.log, State.setIm, State.setPh]
      | cons b rest =>
        rw [stepInput_taken ho hi]
        by_cases hb : b = Config.term
        · subst hb
          simp only [accumulate, if_true, dispatchLine, decodeLine]
          have hd : decode (tookByte Config.term rest s).draws (lineBytes (tookByte Config.term rest s)) =
            decode s.draws (lineBytes s) := rfl
          rw [hd]
          cases hdec : decode s.draws (lineBytes s) with
          | ok i =>
            obtain ⟨t, ht, hc⟩ := exec_inv i (beginDecode (tookByte Config.term rest s))
            simp only [ht, thenResetLine]
            exact ⟨_, rfl, .commands rest i t hp ho hi hdec hc⟩
          | error r =>
            refine ⟨_, rfl, ?_⟩
            have hop : (tookByte Config.term rest s).opening = false := ho
            simpa [resetLine, hop] using SeqCase.rejects rest r hp ho hi hdec
        · simp only [accumulate, hb, if_false]
          exact ⟨_, rfl, .appends b rest hp ho hi hb⟩
    · cases hr : s.ctl.ready
      · refine ⟨s, ?_, .waits hp ho hr⟩
        have hl : s.setLen s.len = s := rfl
        simp [stepInput, ho, enableWait, hr, openReturn, resetLine, hl]
      · refine ⟨_, ?_, .finishes hp ho hr⟩
        simp [stepInput, ho, enableWait, hr, openReturn, resetLine, enableFinish_eq, returnOk]
  · exact .inl ⟨_, by simp [sequencerStep, hp, stepLed, State.setPh], .led hp⟩
  · exact .inl ⟨_, by simp [sequencerStep, hp, stepTransmit], .transmits hp⟩
  · have hs : sequencerStep s = stepReceive s := by simp [sequencerStep, hp]
    rw [hs]
    rcases stepReceive_cases s with ⟨h1, h⟩ | ⟨h1, h2, h⟩ | ⟨h1, h2, h3, h⟩ | ⟨h1, h2, h3, h⟩
    · exact .inl ⟨_, h, .receivesOff hp h1⟩
    · exact .inl ⟨_, h, .receivesNone hp h1 h2⟩
    · exact .inl ⟨_, h, .receives hp h1 h2 h3⟩
    · exact .inr ⟨h, rfl, h1, h2, h3⟩

/-- The inversion of a step: the sequencer's case, then the environment's move. -/
theorem step_next_inv {s t : State} (h : step s = .next t) : ∃ u, SeqCase s u ∧ t = envStep u := by
  rcases sequencerStep_inv s with ⟨u, hu, hc⟩ | ⟨hr, _⟩
  · refine ⟨u, hc, ?_⟩
    simp only [step, hu, thenEnvStep] at h
    cases h
    rfl
  · simp [step, hr, thenEnvStep] at h

end Sys2Proof.Machine
end

