-- ==== Sys2Proof/Laws/Run.lean ====
section
/-! SUPPORT. Runs of many steps. -/

namespace Sys2Proof.Machine

/-- What the sequencer's step answers decides the whole step. -/
theorem stepsThrough_iff {s t : State} : StepsThrough s t ↔ sequencerStep s = .next t :=
  ⟨And.left, fun h => ⟨h, by rw [step, h, thenEnvStep]⟩⟩

@[simp] theorem run_zero (s : State) : run 0 s = .next s := rfl

theorem run_succ (k : Nat) (s : State) : run (k + 1) s =
    match step s with
    | .next t => run k t
    | .fault r => .fault r
    | .refused r => .refused r := rfl

theorem run_succ_of_next {s t : State} (k : Nat) (h : step s = .next t) : run (k + 1) s = run k t := by
  rw [run_succ, h]

/-- One unfolding of the host's `run`. -/
theorem core_run_succ (M : Host.Core) (k : Nat) (s : M.State) :
    Host.Core.run M (k + 1) s = match M.step s with
      | .next t => Host.Core.run M k t
      | .fault r => .fault r
      | .refused r => .refused r := by
  cases h : M.step s <;> simp only [Host.Core.run, h]

/-- The machine's own `run` is the host's. -/
theorem core_run_eq (k : Nat) (s : State) : Host.Core.run Sys2Proof.core k s = run k s := by
  induction k generalizing s with
  | zero => rfl
  | succ k ih =>
    have hs : Sys2Proof.core.step s = step s := rfl
    refine (core_run_succ Sys2Proof.core k s).trans ?_
    rw [run_succ, hs]
    cases step s with
    | next t => exact ih t
    | fault r => rfl
    | refused r => rfl

/-- What a step keeps, a run keeps. -/
theorem run_keeps {P : State → Prop} (hstep : ∀ s t, P s → step s = .next t → P t) :
    ∀ (k : Nat) (s t : State), P s → run k s = .next t → P t := by
  intro k
  induction k with
  | zero => intro s t hs h; cases h; exact hs
  | succ k ih =>
    intro s t hs h
    rw [run_succ] at h
    cases hst : step s with
    | next u => rw [hst] at h; exact ih u t (hstep s u hs hst) h
    | fault r => rw [hst] at h; cases h
    | refused r => rw [hst] at h; cases h

end Sys2Proof.Machine
end

