-- ==== Sys2Proof/Tests/Slice0.lean ====
section
/-! SUPPORT. The model's own tests. Expected results come from spec/95_test_vectors.md (S1 to S11, V1 to V7) and the rules, never from a
run of the model. The `test_witness_` theorems show that the hypotheses of an obligation can be met, each clause at a boundary. -/

open Sys2Proof Sys2Proof.Machine

/-! ### Small states -/

namespace Sys2Proof.Tests

/-- An environment move that leaves the controller as it is and supplies nothing. -/
def calm (s : State) : EnvMove := ⟨s.ctl, [], 0⟩

/-- `s` about to take the terminator of the line `text`, with one quiet environment move to follow. -/
def lined (text : List Byte) (s : State) : State := { placeLine text s with schedule := [calm s] }

/-- Reset, with the bus open. -/
def opened : State := { State.reset with bus := .onBus }

/-- Reset, the controller not ready. -/
def unready : State := { State.reset with ctl := { State.reset.ctl with ready := false } }

/-- `s` with the given ring indices. -/
def ringed (head tail : Fin Config.ringSlots) (s : State) : State := { s with head := head, tail := tail }

/-- A frame of the vectors: standard, DATA, identifier 0x123, length 8. -/
def frame123 : Frame := ⟨false, false, 0x123#32, 8#4, #v[0xDE#8, 0xAD#8, 0xBE#8, 0xEF#8, 0x12#8, 0x34#8, 0x56#8, 0x78#8]⟩

/-- `s` with the frame of scenario S1 in slot 0 and the bus open, in phase `p`. -/
def holding (p : Phase) : State :=
  { opened with ph := p, q := opened.q.set 0 frame123, head := 1, trace := [.busUp] }

/-- P4 with a frame of length `n` pending. -/
def pending (n : BitVec 4) : State :=
  { opened with ph := .p4RxSvc, ctl := { opened.ctl with fav := true, rxMailbox := { frame123 with len := n } } }

/-- What a field of the next state is, where there is one. -/
def look {α : Type} (o : Host.Outcome State Fault Refusal) (f : State → α) : Option α :=
  match o with
  | .next t => some (f t)
  | .fault _ => none
  | .refused _ => none

theorem exists_next {o : Host.Outcome State Fault Refusal} (h : (look o fun _ => ()) = some ()) : ∃ t, o = .next t := by
  cases o with
  | next t => exact ⟨t, rfl⟩
  | fault r => simp [look] at h
  | refused r => simp [look] at h

/-! ### The parameters: the table of R8 -/

theorem test_parameters_sizes :
    Config.params.slots = 28 ∧ Config.usableSlots = 27 ∧ Config.params.lineCap = 30 ∧ Config.params.term = 0x0D#8 ∧
    Config.params.nRates = 9 ∧ Config.params.idNybStd = 3 ∧ Config.params.idNybExt = 8 ∧ Config.params.idBitsStd = 11 ∧
    Config.params.idBitsExt = 29 ∧ Config.params.dlcMax = 8 ∧ Config.params.dataSlots = 8 := by decide

theorem test_parameters_values :
    Config.params.rateTable = [10000#20, 20000#20, 50000#20, 100000#20, 125000#20, 250000#20, 500000#20, 750000#20,
      1000000#20] ∧ Config.params.defaultRate = 125000#20 ∧ Config.params.fallbackRate = 1000000#20 ∧
    Status.fail.code = -1 ∧ Status.ok.code = 0 := by decide

/-! ### Well-formedness: each check refuses an ill-formed term -/

theorem test_illFormed_S : Instr.wellFormed (.setBitrate 16#8) = false := by decide
theorem test_illFormed_m : Instr.wellFormed (.setModeLower 16#8) = false := by decide
theorem test_illFormed_M : Instr.wellFormed (.setModeUpper 16#8) = false := by decide
theorem test_illFormed_a : Instr.wellFormed (.setAutoLower 16#8) = false := by decide
theorem test_illFormed_A : Instr.wellFormed (.setAutoUpper 16#8) = false := by decide
theorem test_illFormed_t_id : Instr.wellFormed (.dataStd 4096#32 0#8 (Vector.replicate 8 0#8)) = false := by decide
theorem test_illFormed_t_len : Instr.wellFormed (.dataStd 0#32 16#8 (Vector.replicate 8 0#8)) = false := by decide
theorem test_illFormed_T_len : Instr.wellFormed (.dataExt 0#32 16#8 (Vector.replicate 8 0#8)) = false := by decide
theorem test_illFormed_r_id : Instr.wellFormed (.remoteStd 4096#32 0#8 (Vector.replicate 8 0#8)) = false := by decide
theorem test_illFormed_r_len : Instr.wellFormed (.remoteStd 0#32 16#8 (Vector.replicate 8 0#8)) = false := by decide
theorem test_illFormed_R_len : Instr.wellFormed (.remoteExt 0#32 16#8 (Vector.replicate 8 0#8)) = false := by decide
/-- Accepted: `S9`, which exists and fails to parse (R102), and the largest identifiers (D5). -/
theorem test_wellFormed_largest : Instr.wellFormed (.setBitrate 9#8) = true ∧ Instr.wellFormed (.dataStd 4095#32 15#8 (Vector.replicate 8 0#8)) = true ∧
    Instr.wellFormed (.remoteExt 0xFFFFFFFF#32 15#8 (Vector.replicate 8 0#8)) = true := by decide

/-! ### Decoding: each constructor's line, written out from R91, R92 and R100 -/

/-- V2: `O`. -/
theorem test_decode_O : decode 0 [0x4F#8] =
    .ok (.openBus) := by rfl
/-- V2: `C`. -/
theorem test_decode_C : decode 0 [0x43#8] =
    .ok (.closeBus) := by rfl
/-- V2: `S8`. -/
theorem test_decode_S : decode 0 [0x53#8, 0x38#8] =
    .ok (.setBitrate 8#8) := by rfl
/-- V2: `Sf`. -/
theorem test_decode_S_lower : decode 0 [0x53#8, 0x66#8] =
    .ok (.setBitrate 15#8) := by rfl
/-- V2: `S45`. -/
theorem test_decode_S_trailing : decode 0 [0x53#8, 0x34#8, 0x35#8] =
    .ok (.setBitrate 4#8) := by rfl
/-- V2: `m1`. -/
theorem test_decode_m : decode 0 [0x6D#8, 0x31#8] =
    .ok (.setModeLower 1#8) := by rfl
/-- V2: `M1`. -/
theorem test_decode_M : decode 0 [0x4D#8, 0x31#8] =
    .ok (.setModeUpper 1#8) := by rfl
/-- V2: `a1`. -/
theorem test_decode_a : decode 0 [0x61#8, 0x31#8] =
    .ok (.setAutoLower 1#8) := by rfl
/-- V2: `A0`. -/
theorem test_decode_A : decode 0 [0x41#8, 0x30#8] =
    .ok (.setAutoUpper 0#8) := by rfl
/-- V2: `V`. -/
theorem test_decode_V : decode 0 [0x56#8] =
    .ok (.version) := by rfl
/-- V6: `V`. -/
theorem test_decode_V_trailing : decode 0 [0x56#8, 0x0A#8] =
    .ok (.version) := by rfl
/-- S1: `t1238DEADBEEF12345678`. -/
theorem test_decode_t : decode 0 [0x74#8, 0x31#8, 0x32#8, 0x33#8, 0x38#8, 0x44#8, 0x45#8, 0x41#8, 0x44#8, 0x42#8, 0x45#8, 0x45#8, 0x46#8, 0x31#8, 0x32#8, 0x33#8, 0x34#8, 0x35#8, 0x36#8, 0x37#8, 0x38#8] =
    .ok (.dataStd 0x123#32 8#8 #v[0xDE#8, 0xAD#8, 0xBE#8, 0xEF#8, 0x12#8, 0x34#8, 0x56#8, 0x78#8]) := by rfl
/-- V3: `t1238deadbeef12345678`. -/
theorem test_decode_t_lower : decode 0 [0x74#8, 0x31#8, 0x32#8, 0x33#8, 0x38#8, 0x64#8, 0x65#8, 0x61#8, 0x64#8, 0x62#8, 0x65#8, 0x65#8, 0x66#8, 0x31#8, 0x32#8, 0x33#8, 0x34#8, 0x35#8, 0x36#8, 0x37#8, 0x38#8] =
    .ok (.dataStd 0x123#32 8#8 #v[0xDE#8, 0xAD#8, 0xBE#8, 0xEF#8, 0x12#8, 0x34#8, 0x56#8, 0x78#8]) := by rfl
/-- V3: `t12341122334455667788XYZ`. -/
theorem test_decode_t_trailing : decode 0 [0x74#8, 0x31#8, 0x32#8, 0x33#8, 0x34#8, 0x31#8, 0x31#8, 0x32#8, 0x32#8, 0x33#8, 0x33#8, 0x34#8, 0x34#8, 0x35#8, 0x35#8, 0x36#8, 0x36#8, 0x37#8, 0x37#8, 0x38#8, 0x38#8, 0x58#8, 0x59#8, 0x5A#8] =
    .ok (.dataStd 0x123#32 4#8 #v[0x11#8, 0x22#8, 0x33#8, 0x44#8, 0x55#8, 0x66#8, 0x77#8, 0x88#8]) := by rfl
/-- V3: `T1ABCDEF030102030000000000`. -/
theorem test_decode_T : decode 0 [0x54#8, 0x31#8, 0x41#8, 0x42#8, 0x43#8, 0x44#8, 0x45#8, 0x46#8, 0x30#8, 0x33#8, 0x30#8, 0x31#8, 0x30#8, 0x32#8, 0x30#8, 0x33#8, 0x30#8, 0x30#8, 0x30#8, 0x30#8, 0x30#8, 0x30#8, 0x30#8, 0x30#8, 0x30#8, 0x30#8] =
    .ok (.dataExt 0x1ABCDEF0#32 3#8 #v[0x01#8, 0x02#8, 0x03#8, 0x00#8, 0x00#8, 0x00#8, 0x00#8, 0x00#8]) := by rfl
/-- V3: `TFFFFFFFF8FFFFFFFFFFFFFFFF`. -/
theorem test_decode_T_wide : decode 0 [0x54#8, 0x46#8, 0x46#8, 0x46#8, 0x46#8, 0x46#8, 0x46#8, 0x46#8, 0x46#8, 0x38#8, 0x46#8, 0x46#8, 0x46#8, 0x46#8, 0x46#8, 0x46#8, 0x46#8, 0x46#8, 0x46#8, 0x46#8, 0x46#8, 0x46#8, 0x46#8, 0x46#8, 0x46#8, 0x46#8] =
    .ok (.dataExt 0xFFFFFFFF#32 8#8 (Vector.replicate 8 0xFF#8)) := by rfl
/-- V3: `r12300000000000000000`. -/
theorem test_decode_r : decode 0 [0x72#8, 0x31#8, 0x32#8, 0x33#8, 0x30#8, 0x30#8, 0x30#8, 0x30#8, 0x30#8, 0x30#8, 0x30#8, 0x30#8, 0x30#8, 0x30#8, 0x30#8, 0x30#8, 0x30#8, 0x30#8, 0x30#8, 0x30#8, 0x30#8] =
    .ok (.remoteStd 0x123#32 0#8 (Vector.replicate 8 0#8)) := by rfl
/-- V3: `R0000123400000000000000000`. -/
theorem test_decode_R : decode 0 [0x52#8, 0x30#8, 0x30#8, 0x30#8, 0x30#8, 0x31#8, 0x32#8, 0x33#8, 0x34#8, 0x30#8, 0x30#8, 0x30#8, 0x30#8, 0x30#8, 0x30#8, 0x30#8, 0x30#8, 0x30#8, 0x30#8, 0x30#8, 0x30#8, 0x30#8, 0x30#8, 0x30#8, 0x30#8, 0x30#8] =
    .ok (.remoteExt 0x1234#32 0#8 (Vector.replicate 8 0#8)) := by rfl
/-- S5, V2, V6: `Z`, `o`, and a line that begins with a line feed are no commands. -/
theorem test_decode_unknown : decode 0 [0x5A#8] = .error (.unknownOpcode 0x5A#8) ∧
    decode 0 [0x6F#8] = .error (.unknownOpcode 0x6F#8) ∧ decode 0 [0x0A#8, 0x56#8] = .error (.unknownOpcode 0x0A#8) := by
  exact ⟨rfl, rfl, rfl⟩
/-- V3: `t12G8DEADBEEF12345678`: the third identifier nybble is a draw, the rest is as in scenario S1. -/
theorem test_decode_drawnNybble : decode 0 [0x74#8, 0x31#8, 0x32#8, 0x47#8, 0x38#8, 0x44#8, 0x45#8, 0x41#8, 0x44#8, 0x42#8, 0x45#8, 0x45#8, 0x46#8, 0x31#8, 0x32#8, 0x33#8, 0x34#8, 0x35#8, 0x36#8, 0x37#8, 0x38#8] =
    .ok (.dataStd (0x120#32 + (Config.freeByte 0 3).setWidth 32) 8#8 #v[0xDE#8, 0xAD#8, 0xBE#8, 0xEF#8, 0x12#8, 0x34#8, 0x56#8, 0x78#8]) := by rfl
/-- V6: an empty line's opcode is a draw. -/
theorem test_decode_empty : opcodeByte 5 [] = Config.freeByte 5 0 := rfl
/-- R100: the host's numbering of the table's words gives the row's command. -/
theorem test_tableWord_S : decodeTableWord 8 0x53 = some (.setBitrate (Config.freeByte 0 1)) := by rfl
theorem test_tableWord_O : decodeTableWord 8 0x4F = some .openBus := by rfl
theorem test_tableWord_none : decodeTableWord 8 0x5A = none := by rfl

/-! ### One step each: the line's terminator is taken and the command runs -/

/-- V2: `O` while OFF_BUS: the four transactions in order. -/
theorem test_O_opens :
    look (step (lined [0x4F#8] State.reset)) (fun t => (t.bus, t.decStatus, t.len, t.trace.drop 2)) =
      some (.onBus, .ok, 0, [.applyTiming (Config.timing 125000#20), .resetConfigureUnfreeze false, .armFilter, .busUp]) := by rfl
/-- R123: `O` with the controller not ready: no status, bus OFF, the line not yet reset. -/
theorem test_O_waits :
    look (step (lined [0x4F#8] unready)) (fun t => (t.bus, t.opening, t.len)) =
      some (.offBus, true, 1) := by decide
/-- V2, P6: `C` while ON_BUS masks, closes, and keeps the queued frame. -/
theorem test_C_closes :
    look (step (lined [0x43#8] (holding .p1Input))) (fun t => (t.bus, t.head, t.tail, t.q[0].id, t.trace.drop 3)) =
      some (.offBus, 1, 0, 0x123#32, [.mask, .busDown]) := by decide
/-- S2, V2: `S4` while OFF_BUS. -/
theorem test_S_sets :
    look (step (lined [0x53#8, 0x34#8] State.reset)) (fun t => (t.rate, t.decStatus)) =
      some (125000#20, .ok) := by decide
/-- V7: `S9` while ON_BUS: the digit is checked first. -/
theorem test_S_digitFirst :
    look (step (lined [0x53#8, 0x39#8] opened)) (fun t => (t.rate, t.decStatus)) =
      some (125000#20, .fail) := by decide
/-- V2: `m1` while OFF_BUS. -/
theorem test_m_selects :
    look (step (lined [0x6D#8, 0x31#8] State.reset)) (fun t => (t.lom, t.art)) =
      some (true, false) := by decide
/-- V2: `M1` while ON_BUS: ConfigRejected, status 0. -/
theorem test_M_rejected :
    look (step (lined [0x4D#8, 0x31#8] opened)) (fun t => (t.lom, t.decStatus)) =
      some (false, .ok) := by decide
/-- V2: `a1` while OFF_BUS: ART and nothing else. -/
theorem test_a_stores :
    look (step (lined [0x61#8, 0x31#8] State.reset)) (fun t => (t.art, t.lom, t.rate)) =
      some (true, false, 125000#20) := by decide
/-- V2: `A0` while OFF_BUS. -/
theorem test_A_clears :
    look (step (lined [0x41#8, 0x30#8] { State.reset with art := true })) (fun t => (t.art, t.decStatus)) =
      some (false, .ok) := by decide
/-- V2: `V`: status 0, nothing written. -/
theorem test_V_silent :
    look (step (lined [0x56#8] { State.reset with decStatus := .fail })) (fun t => (t.decStatus, t.outbound)) =
      some (.ok, []) := by decide
/-- S1: the frame of scenario 1 into slot 0. -/
theorem test_t_enqueues :
    look (step (lined [0x74#8, 0x31#8, 0x32#8, 0x33#8, 0x38#8, 0x44#8, 0x45#8, 0x41#8, 0x44#8, 0x42#8, 0x45#8, 0x45#8, 0x46#8, 0x31#8, 0x32#8, 0x33#8, 0x34#8, 0x35#8, 0x36#8, 0x37#8, 0x38#8] State.reset)) (fun t => (t.q[0], t.head, t.decStatus)) =
      some (frame123, 1, .ok) := by decide
/-- V4: HEAD 27, TAIL 1: slot 27 is written and HEAD wraps to 0. -/
theorem test_t_wraps :
    look (step (lined [0x74#8, 0x31#8, 0x32#8, 0x33#8, 0x38#8, 0x44#8, 0x45#8, 0x41#8, 0x44#8, 0x42#8, 0x45#8, 0x45#8, 0x46#8, 0x31#8, 0x32#8, 0x33#8, 0x34#8, 0x35#8, 0x36#8, 0x37#8, 0x38#8] (ringed 27 1 State.reset))) (fun t => (t.q[27], t.head, t.qfullCnt)) =
      some (frame123, 0, 0) := by decide
/-- V3: the extended DATA frame. -/
theorem test_T_enqueues :
    look (step (lined [0x54#8, 0x31#8, 0x41#8, 0x42#8, 0x43#8, 0x44#8, 0x45#8, 0x46#8, 0x30#8, 0x33#8, 0x30#8, 0x31#8, 0x30#8, 0x32#8, 0x30#8, 0x33#8, 0x30#8, 0x30#8, 0x30#8, 0x30#8, 0x30#8, 0x30#8, 0x30#8, 0x30#8, 0x30#8, 0x30#8] State.reset)) (fun t => (t.q[0], t.head)) =
      some (⟨true, false, 0x1ABCDEF0#32, 3#4, #v[0x01#8, 0x02#8, 0x03#8, 0x00#8, 0x00#8, 0x00#8, 0x00#8, 0x00#8]⟩, 1) := by decide
/-- V4: HEAD 5, TAIL 6: QueueFull. -/
theorem test_T_full :
    look (step (lined [0x54#8, 0x31#8, 0x41#8, 0x42#8, 0x43#8, 0x44#8, 0x45#8, 0x46#8, 0x30#8, 0x33#8, 0x30#8, 0x31#8, 0x30#8, 0x32#8, 0x30#8, 0x33#8, 0x30#8, 0x30#8, 0x30#8, 0x30#8, 0x30#8, 0x30#8, 0x30#8, 0x30#8, 0x30#8, 0x30#8] (ringed 5 6 State.reset))) (fun t => (t.q[5], t.head, t.qfullCnt)) =
      some (Frame.zero, 5, 1) := by decide
/-- V3: the standard REMOTE frame. -/
theorem test_r_enqueues :
    look (step (lined [0x72#8, 0x31#8, 0x32#8, 0x33#8, 0x30#8, 0x30#8, 0x30#8, 0x30#8, 0x30#8, 0x30#8, 0x30#8, 0x30#8, 0x30#8, 0x30#8, 0x30#8, 0x30#8, 0x30#8, 0x30#8, 0x30#8, 0x30#8, 0x30#8] State.reset)) (fun t => (t.q[0], t.head)) =
      some (⟨false, true, 0x123#32, 0#4, Vector.replicate 8 0#8⟩, 1) := by decide
/-- V7: a length of 9 with a full ring: the length is checked first. -/
theorem test_r_longFull :
    look (step (lined [0x72#8, 0x31#8, 0x32#8, 0x33#8, 0x39#8, 0x30#8, 0x30#8, 0x30#8, 0x30#8, 0x30#8, 0x30#8, 0x30#8, 0x30#8, 0x30#8, 0x30#8, 0x30#8, 0x30#8, 0x30#8, 0x30#8, 0x30#8, 0x30#8] (ringed 5 6 State.reset))) (fun t => (t.decStatus, t.qfullCnt, t.head)) =
      some (.fail, 0, 5) := by decide
/-- V3: the extended REMOTE frame. -/
theorem test_R_enqueues :
    look (step (lined [0x52#8, 0x30#8, 0x30#8, 0x30#8, 0x30#8, 0x31#8, 0x32#8, 0x33#8, 0x34#8, 0x30#8, 0x30#8, 0x30#8, 0x30#8, 0x30#8, 0x30#8, 0x30#8, 0x30#8, 0x30#8, 0x30#8, 0x30#8, 0x30#8, 0x30#8, 0x30#8, 0x30#8, 0x30#8, 0x30#8] State.reset)) (fun t => (t.q[0], t.head)) =
      some (⟨true, true, 0x1234#32, 0#4, Vector.replicate 8 0#8⟩, 1) := by decide
/-- V3: a length of 15 is a parse failure. -/
theorem test_R_long :
    look (step (lined [0x52#8, 0x30#8, 0x30#8, 0x30#8, 0x30#8, 0x31#8, 0x32#8, 0x33#8, 0x34#8, 0x46#8, 0x30#8, 0x30#8, 0x30#8, 0x30#8, 0x30#8, 0x30#8, 0x30#8, 0x30#8, 0x30#8, 0x30#8, 0x30#8, 0x30#8, 0x30#8, 0x30#8, 0x30#8, 0x30#8] State.reset)) (fun t => (t.decStatus, t.head)) =
      some (.fail, 0) := by decide
/-- S5: `Z`: a parse failure, nothing enqueued, nothing written. -/
theorem test_unknown :
    look (step (lined [0x5A#8] State.reset)) (fun t => (t.decStatus, t.head, t.outbound, t.len)) =
      some (.fail, 0, [], 0) := by decide

/-! ### The other steps -/

/-- V6, S4: the 31st byte finds the buffer full and starts a new line. -/
theorem test_overflow :
    look (step { State.reset with len := 30, inbound := [0x78#8] }) (fun t => (t.len, t.line[0])) = some (1, 0x78#8) := by decide

/-- V4: TAIL 27 wraps to 0 when slot 27 is submitted. -/
theorem test_submit_wraps :
    look (step { ringed 0 27 opened with ph := .p3TxSvc }) (fun t => (t.tail, t.txfailCnt, t.ph)) = some (0, 0, .p4RxSvc) := by
  decide

/-- V4: a rejected submit is counted and its frame dropped. -/
theorem test_submit_rejected :
    look (step { ringed 2 0 opened with ph := .p3TxSvc, ctl := { opened.ctl with accepts := false } })
      (fun t => (t.tail, t.txfailCnt)) = some (1, 1) := by decide

/-- V5, P4: the drained frame is written as one whole line and P1 follows. -/
theorem test_receive_writes :
    look (step (pending 8#4)) (fun t => (t.outbound.length, t.rxf.id, t.ph)) = some (22, 0x123#32, .p1Input) := by decide

/-- R197: a drained frame with a length of 9 has no meaning. -/
theorem test_receive_refuses : step (pending 9#4) = .refused .receivedLengthAbove8 := by rfl

/-- R204: P2 changes the phase only. -/
theorem test_led : look (step { State.reset with ph := .p2Led }) (fun t => (t.ph, t.trace)) = some (.p3TxSvc, []) := by decide

/-- V5: `t00A10FF09AA900000000`. -/
theorem test_encodeFrame_std : encodeFrame ⟨false, false, 0x00A#32, 1#4, #v[0x0F#8, 0xF0#8, 0x9A#8, 0xA9#8, 0x00#8, 0x00#8, 0x00#8, 0x00#8]⟩ =
    .ok ([0x74#8, 0x30#8, 0x30#8, 0x41#8, 0x31#8, 0x30#8, 0x46#8, 0x46#8, 0x30#8, 0x39#8, 0x41#8, 0x41#8, 0x39#8, 0x30#8, 0x30#8, 0x30#8, 0x30#8, 0x30#8, 0x30#8, 0x30#8, 0x30#8, 0x0D#8], 22) := by rfl
/-- V5, S9: `T1FFFFFFF81122334455667788`. -/
theorem test_encodeFrame_ext : encodeFrame ⟨true, false, 0x1FFFFFFF#32, 8#4, #v[0x11#8, 0x22#8, 0x33#8, 0x44#8, 0x55#8, 0x66#8, 0x77#8, 0x88#8]⟩ =
    .ok ([0x54#8, 0x31#8, 0x46#8, 0x46#8, 0x46#8, 0x46#8, 0x46#8, 0x46#8, 0x46#8, 0x38#8, 0x31#8, 0x31#8, 0x32#8, 0x32#8, 0x33#8, 0x33#8, 0x34#8, 0x34#8, 0x35#8, 0x35#8, 0x36#8, 0x36#8, 0x37#8, 0x37#8, 0x38#8, 0x38#8, 0x0D#8], 27) := by rfl

/-! ### Witnesses: the hypotheses of the obligations can be met -/

/-- A full ring: 27 frames queued from slot 0. -/
def full : State := ringed 27 0 State.reset

/-- P1 with the given bytes waiting and the given line. -/
def feeding (bytes : List Byte) (len : Fin 31) : State := { State.reset with inbound := bytes, len := len }

theorem test_witness_OpenRunsTheEnableSequence : State.reset.bus = .offBus ∧ State.reset.ctl.ready = true := by decide

theorem test_witness_OpenWaitsForTheController : unready.bus = .offBus ∧ unready.ctl.ready = false := by decide

theorem test_witness_OpenWhileOpenIsNoOp : opened.bus = .onBus ∧ opened.opening = false := by decide

/-- For `C`, `m`, `M`, `a`, `A` and the setters: both bus states. -/
theorem test_witness_busStates : opened.bus = .onBus ∧ State.reset.bus = .offBus := by decide

/-- `S`: the digits 8 and 9, in both bus states. -/
theorem test_witness_SetBitrateChecksThenSets :
    9 ≤ (9#8 : Byte).toNat ∧ (8#8 : Byte).toNat < 9 ∧ State.reset.bus = .offBus ∧ opened.bus = .onBus := by decide

/-- Length 8 and free slots, on both sides of the wrap. -/
theorem test_witness_FrameCommandsEnqueue :
    (8#8 : Byte).toNat ≤ 8 ∧ ((ringed 26 0 opened).head.val + 1) % 28 ≠ (ringed 26 0 opened).tail.val ∧
    ((ringed 27 1 opened).head.val + 1) % 28 ≠ (ringed 27 1 opened).tail.val := by decide

theorem test_witness_FrameCommandsRejectLongLengths : 8 < (9#8 : Byte).toNat := by decide

/-- Length 8 and a full ring, on both sides of the wrap. -/
theorem test_witness_FrameCommandsOnFullRingCount :
    (8#8 : Byte).toNat ≤ 8 ∧ (full.head.val + 1) % 28 = full.tail.val ∧
    ((ringed 5 6 opened).head.val + 1) % 28 = (ringed 5 6 opened).tail.val := by decide

/-- V1: the first and the last byte of each range, and the bytes beside them. -/
theorem test_witness_HexvalOfEveryByte :
    hexval 0x30#8 = some 0#8 ∧ hexval 0x39#8 = some 9#8 ∧ hexval 0x61#8 = some 10#8 ∧ hexval 0x66#8 = some 15#8 ∧
    hexval 0x41#8 = some 10#8 ∧ hexval 0x46#8 = some 15#8 ∧ hexval 0x2F#8 = none ∧ hexval 0x3A#8 = none ∧
    hexval 0x40#8 = none ∧ hexval 0x47#8 = none ∧ hexval 0x60#8 = none ∧ hexval 0x67#8 = none := by decide

/-- S10: the two sides of the offset. -/
theorem test_witness_HexcharIsUpperCase : hexchar 9#4 = 0x39#8 ∧ hexchar 10#4 = 0x41#8 ∧ hexchar 15#4 = 0x46#8 := by decide

/-- `7`, `f`, `F`. -/
theorem test_witness_StandardIdentifierAssembly :
    hexval 0x37#8 = some 7#8 ∧ hexval 0x66#8 = some 15#8 ∧ hexval 0x46#8 = some 15#8 := by decide

/-- At position 3: a hex digit, a `G`, and the end of the line. -/
theorem test_witness_FrameLinesAreReadByPosition :
    ([0x74#8, 0x31#8, 0x32#8, 0x66#8] : List Byte)[3]? = some 0x66#8 ∧ hexval 0x66#8 = some 15#8 ∧
    ([0x74#8, 0x31#8, 0x32#8, 0x47#8] : List Byte)[3]? = some 0x47#8 ∧ hexval 0x47#8 = none ∧
    ([0x74#8, 0x31#8, 0x32#8] : List Byte).length ≤ 3 := by decide

theorem test_witness_DecoderRejectsExactlyUnknownOpcodes :
    opcodeByte 0 [0x5A#8] ∉ opcodes ∧ opcodeByte 0 [0x52#8, 0x31#8] ∈ opcodes := by decide

/-- The largest operands each format spells. -/
theorem test_witness_DecodeOfEncodeIsIdentity :
    Instr.wellFormed (.remoteStd 4095#32 15#8 (Vector.replicate 8 0xFF#8)) = true ∧
    Instr.wellFormed (.dataExt 0xFFFFFFFF#32 15#8 (Vector.replicate 8 0xFF#8)) = true := by decide

theorem test_witness_EncodeFrameLineShape : frame123.len.toNat ≤ 8 := by decide

/-- The largest legal standard identifier with length 8, into the last slot. -/
theorem test_witness_ReceivedFrameRoundTrip :
    frameOk { frame123 with id := 0x7FF#32 } = true ∧ frameOk { frame123 with ext := true, id := 0x1FFFFFFF#32 } = true ∧
    ringFull (ringed 27 1 opened) = false := by decide

/-- The digits of the line `r00089F...F`, standard, and of `TFFFFFFFF80...0`, extended, both with the length 8. -/
def stdDigits : List Byte := List.replicate 3 0x30#8 ++ 0x38#8 :: 0x39#8 :: List.replicate 15 0x46#8
def extDigits : List Byte := List.replicate 8 0x46#8 ++ 0x38#8 :: List.replicate 16 0x30#8

theorem test_witness_FrameLineIsReproduced :
    (8#8 : Byte).toNat ≤ 8 ∧ stdDigits.length = 20 ∧ extDigits.length = 25 ∧
    (∀ c ∈ stdDigits ++ extDigits, (0x30 ≤ c.toNat ∧ c.toNat ≤ 0x39) ∨ (0x41 ≤ c.toNat ∧ c.toNat ≤ 0x46)) ∧
    stdDigits[3]? = some 0x38#8 ∧ extDigits[8]? = some 0x38#8 ∧ ringFull (ringed 26 0 opened) = false := by decide

/-- An occupancy of 27, of 0 and of 1, across the wrap. -/
theorem test_witness_RingConditions :
    occupancy (ringed 5 6 opened) = 27 ∧ occupancy (ringed 27 27 opened) = 0 ∧ occupancy (ringed 0 27 opened) = 1 := by decide

/-- P3 with an empty ring, and with one frame and each answer of the controller. -/
theorem test_witness_TransmitServiceStep :
    ({ opened with ph := .p3TxSvc } : State).head = ({ opened with ph := .p3TxSvc } : State).tail ∧
    (holding .p3TxSvc).ph = .p3TxSvc ∧ (holding .p3TxSvc).head ≠ (holding .p3TxSvc).tail ∧
    (holding .p3TxSvc).ctl.txip = false ∧ (holding .p3TxSvc).ctl.accepts = true ∧
    ({ holding .p3TxSvc with ctl := { opened.ctl with accepts := false } } : State).ctl.accepts = false ∧
    ({ holding .p3TxSvc with ctl := { opened.ctl with txip := true } } : State).ctl.txip = true := by decide

/-- P4 with the bus closed, and open with nothing pending. -/
theorem test_witness_ReceiveStepWithNothingPending :
    ({ State.reset with ph := .p4RxSvc } : State).bus = .offBus ∧ (holding .p4RxSvc).bus = .onBus ∧
    (holding .p4RxSvc).ph = .p4RxSvc ∧ (holding .p4RxSvc).ctl.fav = false := by decide

/-- Length 8: the largest that is written. -/
theorem test_witness_ReceiveStepWritesOneLine :
    (pending 8#4).ph = .p4RxSvc ∧ (pending 8#4).bus = .onBus ∧ (pending 8#4).ctl.fav = true ∧
    (pending 8#4).ctl.rxMailbox.len.toNat ≤ 8 := by decide

/-- Length 9: the smallest that is refused. -/
theorem test_witness_ReceiveStepRefusesLongFrames :
    (pending 9#4).ph = .p4RxSvc ∧ (pending 9#4).bus = .onBus ∧ (pending 9#4).ctl.fav = true ∧
    8 < (pending 9#4).ctl.rxMailbox.len.toNat := by decide

theorem test_witness_SpuriousDrainReadsSomeFrame :
    receivePending (holding .p4RxSvc) = false ∧
    receivePending { State.reset with ctl := { State.reset.ctl with fav := true } } = false := by decide

/-- LEN 29, the last free position, and LEN 30. -/
theorem test_witness_InputByteIsAccumulated :
    (feeding [0x78#8] 29).ph = .p1Input ∧ (feeding [0x78#8] 29).opening = false ∧ (0x78#8 : Byte) ≠ 0x0D#8 ∧
    (feeding [0x78#8] 29).len.val < 30 ∧ (feeding [0x78#8] 30).len.val = 30 := by decide

theorem test_witness_CurrentLineGrowsByOneByte :
    (∃ t, step (feeding [0x78#8] 29) = .next t) ∧ (∃ t, step (feeding [0x78#8] 30) = .next t) :=
  ⟨exists_next (by decide), exists_next (by decide)⟩

theorem test_witness_StepRunsTheDecodedCommand :
    (lined [0x4F#8] unready).ph = .p1Input ∧ (lined [0x4F#8] unready).opening = false ∧
    (lined [0x4F#8] unready).inbound = [0x0D#8] ∧
    decode (lined [0x4F#8] unready).draws (lineBytes (lined [0x4F#8] unready)) = .ok .openBus := by
  exact ⟨rfl, rfl, rfl, rfl⟩

theorem test_witness_UnknownOpcodeOnlyFails :
    opcodeByte (lined [0x5A#8, 0x31#8] opened).draws (lineBytes (lined [0x5A#8, 0x31#8] opened)) ∉ opcodes ∧
    (lined [0x5A#8, 0x31#8] opened).ph = .p1Input ∧
    (lined [0x5A#8, 0x31#8] opened).inbound = [0x0D#8] ∧ (lined [0x5A#8, 0x31#8] opened).opening = false := by decide

/-- Positions 0, 1 and LEN of the line `F1` followed by a stale `A`, and position 1 of the line `FG`. -/
theorem test_witness_ConversionPass :
    ({ (lined [0x46#8, 0x31#8, 0x41#8] opened) with len := 2 } : State).len.val = 2 ∧
    hexval (lined [0x46#8, 0x31#8, 0x41#8] opened).line[1] = some 1#8 ∧
    (lined [0x46#8, 0x47#8] opened).len.val = 2 ∧ hexval (lined [0x46#8, 0x47#8] opened).line[1] = none := by decide

theorem test_witness_InputEndsAndLedStep :
    (feeding [] 3).ph = .p1Input ∧ (feeding [] 3).opening = false ∧ (feeding [] 3).inbound = [] ∧
    (holding .p2Led).ph = .p2Led := by decide

/-- Inside `enable()`, the controller not ready now and for two more moves. -/
def hanging : State :=
  { unready with opening := true, im := true, len := 1, inbound := [0x56#8], schedule := [calm unready, ⟨unready.ctl, [0x0D#8], 3⟩] }

theorem test_witness_WaitingStep :
    hanging.ph = .p1Input ∧ hanging.opening = true ∧ hanging.ctl.ready = false ∧
    ({ hanging with ctl := State.reset.ctl } : State).ctl.ready = true := by decide

/-- With `k` at its bound, the length of the schedule. -/
theorem test_witness_NeverReadyHangs :
    hanging.im = true ∧ (∀ m ∈ hanging.schedule, m.ctl.ready = false) ∧ 2 ≤ hanging.schedule.length := by decide

/-- `S6` and the beginning of another line. -/
theorem test_witness_CommandLineRunsItsCommand :
    Instr.wellFormed (.setBitrate 6#8) = true ∧
    (feeding [0x53#8, 0x36#8, 0x0D#8, 0x4F#8] 0).inbound = encode (.setBitrate 6#8) ++ 0x0D#8 :: [0x4F#8] ∧
    (feeding [0x53#8, 0x36#8, 0x0D#8, 0x4F#8] 0).len = 0 ∧ (feeding [0x53#8, 0x36#8, 0x0D#8, 0x4F#8] 0).ph = .p1Input ∧
    (feeding [0x53#8, 0x36#8, 0x0D#8, 0x4F#8] 0).opening = false := by decide

/-- Both invariants hold of an open bus with a frame queued, and that state steps. -/
theorem test_witness_invariants (p : Phase) (hp : p = .p3TxSvc) :
    Inv (holding p) ∧ TraceInv (holding p) ∧ ∃ t, step (holding p) = .next t := by
  subst hp
  refine ⟨⟨by decide, ⟨4, by decide, by decide⟩, by decide, by decide⟩, ⟨by decide, by decide, by decide, ?_, ?_⟩,
    exists_next (by decide)⟩
  · intro f ok h; simp [holding] at h
  · intro bytes h; simp [holding] at h

theorem test_witness_StepKeepsTheInvariant : Inv (holding .p3TxSvc) ∧ ∃ t, step (holding .p3TxSvc) = .next t :=
  ⟨(test_witness_invariants _ rfl).1, (test_witness_invariants _ rfl).2.2⟩

theorem test_witness_StepKeepsTheTraceInvariant :
    Inv (holding .p3TxSvc) ∧ TraceInv (holding .p3TxSvc) ∧ ∃ t, step (holding .p3TxSvc) = .next t := test_witness_invariants _ rfl

/-- A setter and a step with the bus open. -/
theorem test_witness_ConfigurationIsFrozenWhileOpen :
    opened.bus = .onBus ∧ (∃ t, exec (.setBitrate 6#8) opened = .next t) ∧
    (∃ t, step (lined [0x53#8, 0x36#8] opened) = .next t) :=
  ⟨rfl, exists_next (by decide), exists_next (by decide)⟩

/-- `O`, `C`, a step that takes each, and one that finishes a wait, each with another bus after it. -/
theorem test_witness_OnlyOpenAndCloseChangeTheBus :
    (∃ t, exec .openBus State.reset = .next t ∧ t.bus ≠ State.reset.bus) ∧
    (∃ t, exec .closeBus opened = .next t ∧ t.bus ≠ opened.bus) ∧
    (∃ t, step (lined [0x43#8] opened) = .next t ∧ t.bus ≠ (lined [0x43#8] opened).bus) ∧
    (∃ t, step (lined [0x4F#8] State.reset) = .next t ∧ t.bus ≠ (lined [0x4F#8] State.reset).bus) ∧
    (∃ t, step { hanging with ctl := State.reset.ctl } = .next t ∧ t.bus ≠ hanging.bus) :=
  ⟨⟨_, rfl, by decide⟩, ⟨_, rfl, by decide⟩, ⟨_, rfl, by decide⟩, ⟨_, rfl, by decide⟩, ⟨_, rfl, by decide⟩⟩

theorem test_witness_CommandsFrame :
    (∃ t, exec .openBus unready = .next t) ∧ (∃ t, exec (.dataStd 0x123#32 8#8 frame123.data) State.reset = .next t) :=
  ⟨exists_next (by decide), exists_next (by decide)⟩

/-- For PhasesCycle, AutoRetransmitBitIsInert and TickIsReadByNothing: a step in each phase. -/
theorem test_witness_steps :
    (∃ t, step (lined [0x61#8, 0x31#8] State.reset) = .next t) ∧ (∃ t, step (holding .p2Led) = .next t) ∧
    (∃ t, step (holding .p3TxSvc) = .next t) ∧ (∃ t, step (pending 8#4) = .next t) :=
  ⟨exists_next (by decide), exists_next (by decide), exists_next (by decide), exists_next (by decide)⟩

/-- 26 queued frames, and 27. -/
theorem test_witness_EnqueueRefinesABoundedQueue :
    (queued (ringed 26 0 opened)).length < 27 ∧ (queued (ringed 5 6 opened)).length = 27 := by decide

/-- No frame queued; the controller busy; one frame queued and the controller idle. -/
theorem test_witness_ServiceTakesTheOldestFrame :
    queued opened = [] ∧ ({ holding .p3TxSvc with ctl := { opened.ctl with txip := true } } : State).ctl.txip = true ∧
    queued (holding .p3TxSvc) = [frame123] ∧ (holding .p3TxSvc).ctl.txip = false := by decide

/-- An empty ring that starts at the last slot, and 27 frames. -/
theorem test_witness_RingHoldsTwentySevenFrames :
    ringEmpty (ringed 27 27 opened) = true ∧ (ringed 27 27 opened).ctl.txip = false ∧
    (List.replicate 27 frame123).length = 27 := by decide

/-- Three steps: the terminator of a frame's line, the end of P1, and P2. -/
theorem test_witness_FramesLeaveInArrivalOrder :
    ∃ t, run 3 { lined [0x56#8] opened with schedule := [calm opened, calm opened, calm opened] } = .next t :=
  exists_next (by decide)

/-- Two states that differ in the stale byte LINE[1] only, one that steps and one that is refused. -/
theorem test_witness_StaleLineBytesAreNeverRead :
    SameButStaleLine (feeding [0x78#8] 1) { feeding [0x78#8] 1 with line := (feeding [0x78#8] 1).line.set 1 0x41#8 } ∧
    (∃ t, step (feeding [0x78#8] 1) = .next t) ∧ step (pending 9#4) = .refused .receivedLengthAbove8 ∧
    SameButStaleLine (pending 9#4) { pending 9#4 with line := (pending 9#4).line.set 0 0x41#8 } :=
  ⟨⟨rfl, by decide⟩, exists_next (by decide), rfl, ⟨rfl, by decide⟩⟩

/-- The line `text`, terminated, with four quiet moves of the environment to follow. -/
def parsedLine (text : List Byte) : State :=
  { lined text opened with schedule := [calm opened, calm opened, calm opened, calm opened] }

/-- Scenario S1's line. -/
def s1Line : State :=
  parsedLine [0x74#8, 0x31#8, 0x32#8, 0x33#8, 0x38#8, 0x44#8, 0x45#8, 0x41#8, 0x44#8, 0x42#8, 0x45#8, 0x45#8, 0x46#8, 0x31#8,
    0x32#8, 0x33#8, 0x34#8, 0x35#8, 0x36#8, 0x37#8, 0x38#8]

theorem test_witness_ParsedFrameIsServedInTheSameIteration :
    s1Line.ph = .p1Input ∧ s1Line.opening = false ∧ s1Line.inbound = [0x0D#8] ∧ ringEmpty s1Line = true ∧
    (8#8 : Byte).toNat ≤ 8 ∧ s1Line.schedule = [calm opened, calm opened, calm opened, calm opened] ∧
    (calm opened).bytes = [] ∧ (calm opened).ctl.txip = false := by decide

theorem test_witness_ParsedFrameIsServedInTheSameIteration_decode :
    decode s1Line.draws (lineBytes s1Line) = .ok (frameCommand false false 0x123#32 8#8 frame123.data) := by rfl

/-- The same with an extended REMOTE line of length 0. -/
theorem test_witness_ParsedFrameIsServedInTheSameIteration_remote :
    let s : State := parsedLine (0x52#8 :: List.replicate 25 0x30#8)
    s.ph = .p1Input ∧ s.opening = false ∧ s.inbound = [0x0D#8] ∧ ringEmpty s = true ∧
    decode s.draws (lineBytes s) = .ok (frameCommand true true 0#32 0#8 (Vector.replicate 8 0#8)) :=
  ⟨rfl, rfl, rfl, rfl, rfl⟩

end Sys2Proof.Tests
end

section
/-! PROOFS. The statement of spec/00_scope.md about the environment's move (R7, R46, R229, R230; log 15). -/

namespace Sys2Proof.Proofs.Scope
open Sys2Proof.Machine

/-- Settles O40. The five bound values are those of the environment's next move and of the schedule it uses up; that no other field
changes is the one record update `envStep_eq`. -/
theorem environmentWritesNoBlockRegister : Obligations.EnvironmentWritesNoBlockRegister := by
  intro s
  exact ⟨(envNext s).ctl, (envNext s).bytes, (envNext s).ticks, s.schedule.tail,
    if s.schedule.isEmpty then s.envSteps + 1 else s.envSteps, envStep_eq s⟩

end Sys2Proof.Proofs.Scope
end

section
/-! PROOFS. The statements of spec/10_state.md about the ring, the state after reset, the phases, the configuration and the state
invariant. Those about a step go through its inversion `step_next_inv`: one lemma for the cases of a command, one for the cases of
the sequencer's step. -/

namespace Sys2Proof.Proofs.State
open Sys2Proof Sys2Proof.Machine

/-! ### The ring (R31) -/

theorem occupancy_eq (s : State) : occupancy s = (s.head.val + 28 - s.tail.val) % 28 := by
  have htail : s.tail.val < 28 := s.tail.isLt
  rw [occupancy, Fin.val_sub]
  show (28 - s.tail.val + s.head.val) % 28 = _
  omega

theorem occupancy_le (s : State) : occupancy s ≤ 27 := by
  rw [occupancy_eq]
  omega

theorem ringEmpty_iff (s : State) : ringEmpty s = true ↔ s.head = s.tail := by rw [ringEmpty, decide_eq_true_iff]

theorem ringFull_iff (s : State) : ringFull s = true ↔ (s.head.val + 1) % 28 = s.tail.val := by
  rw [ringFull, decide_eq_true_iff, Fin.ext_iff, ringNext_val]

theorem ringEmpty_iff_occupancy (s : State) : ringEmpty s = true ↔ occupancy s = 0 := by
  have hhead : s.head.val < 28 := s.head.isLt
  have htail : s.tail.val < 28 := s.tail.isLt
  rw [ringEmpty_iff, occupancy_eq, Fin.ext_iff]
  omega

theorem ringFull_iff_occupancy (s : State) : ringFull s = true ↔ occupancy s = 27 := by
  have hhead : s.head.val < 28 := s.head.isLt
  have htail : s.tail.val < 28 := s.tail.isLt
  rw [ringFull_iff, occupancy_eq]
  omega

@[simp] theorem length_queued (s : State) : (queued s).length = occupancy s := by simp [queued]

/-- The `k`-th oldest frame stands `k` slots after TAIL, around the wrap. -/
theorem queued_getElem? {s : State} {k : Nat} (h : k < occupancy s) :
    (queued s)[k]? = some (s.q[(s.tail.val + k) % 28]'(Nat.mod_lt _ (by decide))) := by
  have hslot : (s.tail + Fin.ofNat Config.ringSlots k).val = (s.tail.val + k) % 28 := by
    simp [Fin.val_add]
  rw [queued, List.getElem?_map, List.getElem?_range h]
  exact congrArg some (getElem_congr_idx (c := s.q) hslot)

/-- Settles O24: each condition is index arithmetic modulo 28. -/
theorem ringConditions : Obligations.RingConditions := fun s =>
  ⟨ringEmpty_iff s, ringFull_iff s, occupancy_eq s, occupancy_le s, length_queued s, fun _ hk => queued_getElem? hk,
    ringEmpty_iff_occupancy s, ringFull_iff_occupancy s⟩

/-! ### Reset (R47) -/

/-- Settles O41: each value is the field of `State.reset`; the bus being closed, nothing is pending. -/
theorem resetValuesTheSpecGives : Obligations.ResetValuesTheSpecGives :=
  ⟨rfl, rfl, rfl, rfl, rfl, rfl, rfl, rfl, rfl, rfl, rfl, rfl, fun _ => receivePending_offBus rfl⟩

theorem inv_reset : Inv State.reset where
  slots i := by
    have hzero : State.reset.q[i] = Frame.zero := Vector.getElem_replicate ..
    rw [hzero, frameLenOk_iff]
    decide
  rate := ⟨4, by decide, by decide⟩
  masked := nofun
  waiting := nofun

theorem traceInv_reset : TraceInv State.reset where
  bus := rfl
  txfail := rfl
  out := rfl
  submits := nofun
  lines := nofun

/-- Settles O42: all slots hold the zero frame, the rate is selector 4's, and no transaction has been issued. -/
theorem resetMeetsTheInvariants : Obligations.ResetMeetsTheInvariants := ⟨inv_reset, traceInv_reset⟩

/-! ### What the shared operations write -/

/-- The accumulator writes LINE and LEN only (R202, R203). -/
theorem appendByte_writes (b : Byte) (s : State) : ∃ l n, appendByte b s = (s.setLine l).setLen n := by
  by_cases h : s.len.val < Config.lineCap
  · exact ⟨s.line.set s.len.val b, Fin.ofNat 31 (s.len.val + 1), appendByte_room b h⟩
  · have hfull : s.len.val = Config.lineCap := Nat.le_antisymm (Nat.le_of_lt_succ s.len.isLt) (Nat.le_of_not_lt h)
    exact ⟨s.line.set 0 b, 1, appendByte_full b hfull⟩

/-- The transmit service does not move the phase. -/
theorem serviceTransmit_ph (s : State) : (serviceTransmit s).ph = s.ph := by
  rcases serviceTransmit_cases s with ⟨_, e⟩ | ⟨_, _, e⟩ | ⟨_, _, _, e⟩ | ⟨_, _, _, e⟩ <;> rw [e]

/-- No command moves the phase (R211). -/
theorem execCase_ph {s t : State} {i : Instr} (h : ExecCase s i t) : t.ph = s.ph := by
  cases h with
  | status | rate | lom | art | still | enqueued | full => rfl
  | opened => rw [enableFinish_eq, enableBegin_eq]; rfl
  | waits => rw [enableBegin_eq]
  | closed hb => rw [disable_onBus hb]; rfl

/-! ### The phases (R36, R200) -/

theorem seqCase_ph {s t : State} (h : SeqCase s t) : t.ph = s.ph.succ ∨ (s.ph = .p1Input ∧ t.ph = .p1Input) := by
  cases h with
  | waits hp => exact .inr ⟨hp, hp⟩
  | finishes hp => exact .inr ⟨hp, by rw [enableFinish_eq]; exact hp⟩
  | endsInput hp | led hp | transmits hp | receivesOff hp | receivesNone hp | receives hp => left; rw [hp]; rfl
  | appends b rest hp =>
    obtain ⟨l, n, happ⟩ := appendByte_writes b (tookByte b rest s)
    exact .inr ⟨hp, by rw [happ]; exact hp⟩
  | commands rest i u hp _ _ _ hu =>
    have hph : u.ph = s.ph := by simpa [tookByte] using execCase_ph hu
    exact .inr ⟨hp, by simpa [resetLine, hph] using hp⟩
  | rejects rest r hp => exact .inr ⟨hp, by simpa [tookByte] using hp⟩

/-- Settles O49: every case of the sequencer's step says where the phase goes, and the environment does not move it. -/
theorem phasesCycle : Obligations.PhasesCycle := by
  intro s t h
  obtain ⟨u, hu, rfl⟩ := step_next_inv h
  rw [envStep_ph]
  exact seqCase_ph hu

/-! ### The configuration (R24, R234) -/

/-- A command with the bus open leaves the configuration: its three setters need the bus closed. -/
theorem execCase_config {s t : State} {i : Instr} (hb : s.bus = .onBus) (h : ExecCase s i t) : config t = config s := by
  cases h with
  | status | still | enqueued | full => rfl
  | rate _ _ hoff | lom _ _ hoff | art _ _ hoff | opened hoff | waits hoff => rw [hb] at hoff; cases hoff
  | closed => rw [disable_onBus hb]; rfl

theorem seqCase_config {s t : State} (hb : s.bus = .onBus) (h : SeqCase s t) : config t = config s := by
  cases h with
  | rejects => simp [config, tookByte]
  | waits | endsInput | led | receivesOff | receivesNone | receives => rfl
  | finishes => rw [enableFinish_eq]; rfl
  | appends b rest =>
    obtain ⟨l, n, happ⟩ := appendByte_writes b (tookByte b rest s)
    rw [happ]; rfl
  | commands rest i u _ _ _ _ hu =>
    have hbu : (beginDecode (tookByte Config.term rest s)).bus = .onBus := by simpa [tookByte] using hb
    simpa [config, resetLine, tookByte] using execCase_config hbu hu
  | transmits =>
    rcases serviceTransmit_cases s with ⟨_, e⟩ | ⟨_, _, e⟩ | ⟨_, _, _, e⟩ | ⟨_, _, _, e⟩ <;> rw [e] <;> rfl

/-- Settles O45: the setters are gated by BUS, and nothing else of a step, the environment's move included, writes the
configuration. -/
theorem configurationIsFrozenWhileOpen : Obligations.ConfigurationIsFrozenWhileOpen := by
  refine ⟨fun i s t hb h => execCase_config hb (exec_next_inv h), fun s t hb h => ?_⟩
  obtain ⟨u, hu, rfl⟩ := step_next_inv h
  rw [← seqCase_config hb hu]
  simp only [config, envStep_rate, envStep_lom, envStep_art]

/-! ### The state invariant (R22, R25, R123, R209) -/

/-- The fields the invariant speaks of. -/
theorem inv_congr {s t : State} (hs : Inv s) (hq : t.q = s.q) (hrate : t.rate = s.rate) (him : t.im = s.im) (hph : t.ph = s.ph)
    (hop : t.opening = s.opening) (hbus : t.bus = s.bus) : Inv t where
  slots := by rw [hq]; exact hs.slots
  rate := by rw [hrate]; exact hs.rate
  masked := by rw [him, hph]; exact hs.masked
  waiting := by rw [hop, hph, him, hbus]; exact hs.waiting

theorem beginDecode_inv {s : State} (hs : Inv s) : Inv (beginDecode s) := by apply inv_congr hs <;> simp

theorem envStep_inv {s : State} (hs : Inv s) : Inv (envStep s) := by apply inv_congr hs <;> simp

/-- A frame of legal length written into the ring leaves every slot legal (R164, R129). -/
theorem slots_set_lenOk {q : Vector Frame Config.ringSlots} {f : Frame} (i : Fin Config.ringSlots)
    (hq : ∀ j : Fin Config.ringSlots, frameLenOk q[j] = true) (hf : frameLenOk f = true) (j : Fin Config.ringSlots) :
    frameLenOk (q.set i f)[j] = true := by
  rw [Fin.getElem_fin, Vector.getElem_set]
  split
  · exact hf
  · exact hq j

/-- A command, run masked inside P1, keeps the invariant. -/
theorem execCase_inv {s t : State} {i : Instr} (hs : Inv s) (hp : s.ph = .p1Input) (him : s.im = true)
    (h : ExecCase s i t) : Inv t := by
  cases h with
  | status | lom | art | still | full => exact ⟨hs.slots, hs.rate, hs.masked, hs.waiting⟩
  | rate _ sel _ hsel => exact ⟨hs.slots, ⟨sel, hsel, rfl⟩, hs.masked, hs.waiting⟩
  | opened =>
    rw [enableFinish_eq, enableBegin_eq]
    exact ⟨hs.slots, hs.rate, hs.masked, nofun⟩
  | waits hb =>
    rw [enableBegin_eq]
    exact ⟨hs.slots, hs.rate, hs.masked, fun _ => ⟨hp, him, hb⟩⟩
  | closed hb =>
    rw [disable_onBus hb]
    exact ⟨hs.slots, hs.rate, hs.masked, fun _ => ⟨hp, him, rfl⟩⟩
  | enqueued _ f _ hf => exact ⟨slots_set_lenOk s.head hs.slots hf, hs.rate, hs.masked, hs.waiting⟩

/-- Taking a byte in P1, outside a wait, masks the tick and keeps the invariant (R209). -/
theorem tookByte_inv {s : State} (b : Byte) (rest : List Byte) (hs : Inv s) (hp : s.ph = .p1Input) (ho : s.opening = false) :
    Inv (tookByte b rest s) :=
  ⟨hs.slots, hs.rate, fun _ => hp, fun hopen => by rw [show s.opening = true from hopen] at ho; cases ho⟩

/-- The transmit service writes TAIL, TXFAIL_CNT, the controller and the record only. -/
theorem serviceTransmit_inv {s : State} (hs : Inv s) : Inv (serviceTransmit s) := by
  rcases serviceTransmit_cases s with ⟨_, e⟩ | ⟨_, _, e⟩ | ⟨_, _, _, e⟩ | ⟨_, _, _, e⟩ <;> rw [e] <;>
    exact ⟨hs.slots, hs.rate, hs.masked, hs.waiting⟩

/-- A change of phase outside P1 keeps the invariant: there the tick is not masked and nothing waits. -/
theorem setPh_inv {s : State} (p : Phase) (hs : Inv s) (hp : s.ph ≠ .p1Input) : Inv (s.setPh p) :=
  ⟨hs.slots, hs.rate, fun him => absurd (hs.masked him) hp, fun ho => absurd (hs.waiting ho).1 hp⟩

/-- Every case of the sequencer's step keeps the invariant. -/
theorem seqCase_inv {s t : State} (hs : Inv s) (h : SeqCase s t) : Inv t := by
  cases h with
  | waits => exact hs
  | finishes =>
    rw [enableFinish_eq]
    exact ⟨hs.slots, hs.rate, hs.masked, nofun⟩
  | endsInput _ ho => exact ⟨hs.slots, hs.rate, nofun, fun h => by rw [show s.opening = true from h] at ho; cases ho⟩
  | appends b rest hp ho =>
    obtain ⟨l, n, happ⟩ := appendByte_writes b (tookByte b rest s)
    have hu := tookByte_inv b rest hs hp ho
    rw [happ]
    exact inv_congr hu rfl rfl rfl rfl rfl rfl
  | commands rest i u hp ho _ _ hu =>
    have hb := beginDecode_inv (tookByte_inv Config.term rest hs hp ho)
    have ht := execCase_inv hb (by simpa [tookByte] using hp) (by simp [tookByte]) hu
    exact inv_congr ht rfl rfl rfl rfl rfl rfl
  | rejects rest r hp ho =>
    have hb := beginDecode_inv (tookByte_inv Config.term rest hs hp ho)
    apply inv_congr hb <;> simp
  | led hp | receivesOff hp | receivesNone hp | receives hp =>
    exact inv_congr (setPh_inv _ hs (by simp [hp])) rfl rfl rfl rfl rfl rfl
  | transmits hp => exact setPh_inv _ (serviceTransmit_inv hs) (by simp [serviceTransmit_ph, hp])

/-- Settles O43: every case of the sequencer's step keeps the invariant, and the environment's move writes none of its fields. -/
theorem stepKeepsTheInvariant : Obligations.StepKeepsTheInvariant := by
  intro s t hs h
  obtain ⟨u, hu, rfl⟩ := step_next_inv h
  exact envStep_inv (seqCase_inv hs hu)

end Sys2Proof.Proofs.State
end

section
/-! PROOFS. The statement of spec/10_state.md about the record of port transactions (R38, R42, R44; log 7). Every operation appends
its transactions, so one lemma about an extended record, `traceInv_append`, serves all of them. -/

namespace Sys2Proof.Proofs.State
open Sys2Proof Sys2Proof.Machine

/-! ### Longer records -/

theorem indicatedBus_append (tr evs : List PortEvent) :
    indicatedBus (tr ++ evs) = evs.foldl indicate (indicatedBus tr) := List.foldl_append

theorem rejections_append (tr evs : List PortEvent) : rejections (tr ++ evs) = rejections tr + rejections evs :=
  List.countP_append

theorem written_append (tr evs : List PortEvent) : written (tr ++ evs) = written tr ++ written evs := List.flatMap_append

/-- A line the block may write: 22 or 27 bytes that end in the terminator (R195). -/
def WholeLine (bytes : List Byte) : Prop := (bytes.length = 22 ∨ bytes.length = 27) ∧ bytes.getLast? = some Config.term

theorem wholeLine_outboundLine (f : Frame) : WholeLine (outboundLine f) := by
  refine ⟨?_, by simp [outboundLine]⟩
  cases hext : f.ext <;> simp [outboundLine, frameText, frameIdChars, hext]

/-- One transaction is what the trace invariant allows: a submitted frame has a legal length, a written line is whole. -/
def EventOk : PortEvent → Prop
  | .submit f _ => frameLenOk f = true
  | .outWrite bytes => WholeLine bytes
  | _ => True

/-- The trace invariant of a state that has issued the further transactions `evs`: each is allowed, and BUS, TXFAIL_CNT and the
outbound stream have followed them. -/
theorem traceInv_append {s t : State} (evs : List PortEvent) (hs : TraceInv s) (htrace : t.trace = s.trace ++ evs)
    (hbus : t.bus = evs.foldl indicate s.bus) (htx : t.txfailCnt = s.txfailCnt + rejections evs)
    (hout : t.outbound = s.outbound ++ written evs) (hok : ∀ e ∈ evs, EventOk e) : TraceInv t where
  bus := by rw [htrace, indicatedBus_append, hs.bus, hbus]
  txfail := by rw [htrace, rejections_append, ← hs.txfail, htx]
  out := by rw [htrace, written_append, ← hs.out, hout]
  submits f ok hmem := by
    rw [htrace, List.mem_append] at hmem
    exact hmem.elim (hs.submits f ok) (hok _)
  lines bytes hmem := by
    rw [htrace, List.mem_append] at hmem
    exact hmem.elim (hs.lines bytes) (hok _)

/-- The fields the trace invariant speaks of. -/
theorem traceInv_congr {s t : State} (hs : TraceInv s) (htrace : t.trace = s.trace) (hbus : t.bus = s.bus)
    (htx : t.txfailCnt = s.txfailCnt) (hout : t.outbound = s.outbound) : TraceInv t :=
  traceInv_append [] hs (by simp [htrace]) hbus htx (by simp [hout, written]) nofun

theorem beginDecode_traceInv {s : State} (hs : TraceInv s) : TraceInv (beginDecode s) := by
  apply traceInv_congr hs <;> simp

theorem envStep_traceInv {s : State} (hs : TraceInv s) : TraceInv (envStep s) := by
  apply traceInv_congr hs <;> simp

/-! ### What each operation appends -/

/-- Taking a byte is two transactions of the transport (R44). -/
theorem tookByte_traceInv {s : State} (b : Byte) (rest : List Byte) (hs : TraceInv s) : TraceInv (tookByte b rest s) :=
  traceInv_append [.inAvail true, .inPop b] hs rfl rfl rfl (by simp [tookByte, written]) (by simp [EventOk])

/-- `enable()` up to its wait tells the indicator nothing (R121). -/
theorem enableBegin_traceInv {s : State} (hs : TraceInv s) : TraceInv (enableBegin s) := by
  rw [enableBegin_eq]
  exact traceInv_append [.applyTiming (Config.timing s.rate), .resetConfigureUnfreeze s.lom] hs rfl rfl rfl
    (by simp [written]) (by simp [EventOk])

/-- The end of `enable()` opens the bus and says so (R121, R42). -/
theorem enableFinish_traceInv {s : State} (hs : TraceInv s) : TraceInv (enableFinish s) := by
  rw [enableFinish_eq]
  exact traceInv_append [.armFilter, .busUp] hs rfl rfl rfl (by simp [written]) (by simp [EventOk])

/-- `disable()` closes the bus and says so, or does nothing (R124). -/
theorem disable_traceInv {s : State} (hs : TraceInv s) : TraceInv (disable s) := by
  cases hb : s.bus with
  | offBus => rwa [disable_offBus hb]
  | onBus =>
    rw [disable_onBus hb]
    exact traceInv_append [.mask, .busDown] hs rfl rfl rfl (by simp [written]) (by simp [EventOk])

/-- A command keeps the trace invariant: only `O` and `C` issue transactions, and frame commands write the ring. -/
theorem execCase_traceInv {s t : State} {i : Instr} (hs : TraceInv s) (h : ExecCase s i t) : TraceInv t := by
  cases h with
  | status | rate | lom | art | still | enqueued | full => exact traceInv_congr hs rfl rfl rfl rfl
  | opened => exact traceInv_congr (enableFinish_traceInv (enableBegin_traceInv hs)) rfl rfl rfl rfl
  | waits => exact enableBegin_traceInv hs
  | closed => exact traceInv_congr (disable_traceInv hs) rfl rfl rfl rfl

/-- The transmit service submits a frame of the ring, whose length is legal, and counts it when it is rejected (R130, R22). -/
theorem serviceTransmit_traceInv {s : State} (hinv : Inv s) (hs : TraceInv s) : TraceInv (serviceTransmit s) := by
  have hlen : frameLenOk s.q[s.tail] = true := hinv.slots s.tail
  rcases serviceTransmit_cases s with ⟨_, e⟩ | ⟨_, _, e⟩ | ⟨_, _, _, e⟩ | ⟨_, _, _, e⟩ <;> rw [e]
  · exact hs
  · exact traceInv_append [.txip true] hs rfl rfl rfl (by simp [written]) (by simp [EventOk])
  · exact traceInv_append [.txip false, .submit s.q[s.tail] true] hs rfl rfl rfl (by simp [written])
      (by simpa [EventOk] using hlen)
  · exact traceInv_append [.txip false, .submit s.q[s.tail] false] hs rfl rfl rfl (by simp [written])
      (by simpa [EventOk] using hlen)

/-- Every case of the sequencer's step keeps the trace invariant. -/
theorem seqCase_traceInv {s t : State} (hinv : Inv s) (hs : TraceInv s) (h : SeqCase s t) : TraceInv t := by
  cases h with
  | waits | led | receivesOff => exact traceInv_congr hs rfl rfl rfl rfl
  | finishes => exact traceInv_congr (enableFinish_traceInv hs) rfl rfl rfl rfl
  | endsInput => exact traceInv_append [.inAvail false] hs rfl rfl rfl (by simp [written]) (by simp [EventOk])
  | appends b rest =>
    obtain ⟨l, n, happ⟩ := appendByte_writes b (tookByte b rest s)
    rw [happ]
    exact traceInv_congr (tookByte_traceInv b rest hs) rfl rfl rfl rfl
  | commands rest i u _ _ _ _ hu =>
    have hd := beginDecode_traceInv (tookByte_traceInv Config.term rest hs)
    exact traceInv_congr (execCase_traceInv hd hu) rfl rfl rfl rfl
  | rejects rest r =>
    have hd := beginDecode_traceInv (tookByte_traceInv Config.term rest hs)
    apply traceInv_congr hd <;> simp
  | transmits => exact traceInv_congr (serviceTransmit_traceInv hinv hs) rfl rfl rfl rfl
  | receivesNone => exact traceInv_append [.fav false] hs rfl rfl rfl (by simp [written]) (by simp [EventOk])
  | receives =>
    exact traceInv_append
      [.fav true, .rxRead s.ctl.rxMailbox, .rxClear, .outWrite (outboundLine s.ctl.rxMailbox)] hs rfl rfl rfl
      (by simp [written]) (by simpa [EventOk] using wholeLine_outboundLine _)

/-- Settles O44: every case of the sequencer's step keeps the trace invariant, and the environment issues no transaction. -/
theorem stepKeepsTheTraceInvariant : Obligations.StepKeepsTheTraceInvariant := by
  intro s t hinv hs h
  obtain ⟨u, hu, rfl⟩ := step_next_inv h
  exact envStep_traceInv (seqCase_traceInv hinv hs hu)

end Sys2Proof.Proofs.State
end

section
/-! PROOFS. The statements of spec/10_state.md that ART and the tick are read by nothing (R27, R45, R128, R236). Both follow from one
lemma, `step_withArtTick`: every operation commutes with writing another ART and another tick beforehand, but for the two commands
that overwrite ART. -/

namespace Sys2Proof.Proofs.State
open Sys2Proof Sys2Proof.Machine

/-! ### Another ART and another tick -/

/-- The state with another ART and another tick. -/
def withArtTick (b : Bool) (n : Nat) (s : State) : State := { s with art := b, tick := n }

theorem withArtTick_self (s : State) : withArtTick s.art s.tick s = s := rfl

/-- The outcome with `f` done to its next state. -/
def mapNext (f : State → State) : Host.Outcome State Fault Refusal → Host.Outcome State Fault Refusal
  | .next t => .next (f t)
  | .fault r => .fault r
  | .refused r => .refused r

/-- `o` is a step's outcome as a function of ART and the tick: they decide neither which outcome it is nor any other field; the tick
is left as it is, and ART too, but for the value `w` where the step writes one. -/
def BlindToArtTick (o : State → Host.Outcome State Fault Refusal) (s : State) : Prop :=
  ∃ w : Option Bool, ∀ b n, o (withArtTick b n s) = mapNext (withArtTick (w.getD b) n) (o s)

/-! ### Operations that commute with it -/

section
variable (b : Bool) (n : Nat) (s : State)

theorem enableWait_withArtTick : enableWait (withArtTick b n s) = withArtTick b n (enableWait s) :=
  (apply_ite (withArtTick b n) (s.ctl.ready = true) (enableFinish s) s).symm

theorem openReturn_withArtTick : openReturn (withArtTick b n s) = withArtTick b n (openReturn s) :=
  (apply_ite (withArtTick b n) (s.opening = true) s (returnOk s)).symm

theorem enable_withArtTick : enable (withArtTick b n s) = withArtTick b n (enable s) := by
  cases h : s.bus with
  | offBus =>
    rw [enable_offBus h, enable_offBus (s := withArtTick b n s) h, ← enableWait_withArtTick]
    rfl
  | onBus => rw [enable_onBus h, enable_onBus (s := withArtTick b n s) h]

theorem disable_withArtTick : disable (withArtTick b n s) = withArtTick b n (disable s) := by
  cases s with | mk bus => cases bus <;> rfl

theorem setBitrate_withArtTick (sel : Nat) : setBitrate sel (withArtTick b n s) = withArtTick b n (setBitrate sel s) := by
  cases s with | mk bus => cases bus <;> rfl

theorem setListenOnly_withArtTick (v : Bool) :
    setListenOnly v (withArtTick b n s) = withArtTick b n (setListenOnly v s) := by
  cases s with | mk bus => cases bus <;> rfl

theorem transmitEnqueue_withArtTick (f : Frame) :
    transmitEnqueue f (withArtTick b n s) = withArtTick b n (transmitEnqueue f s) :=
  (apply_ite (withArtTick b n) (ringFull s = true) s.bumpQfull (ringPush f s)).symm

theorem queueFrame_withArtTick (f : Frame) : queueFrame f (withArtTick b n s) = withArtTick b n (queueFrame f s) := by
  rw [queueFrame, queueFrame, transmitEnqueue_withArtTick]
  exact (apply_ite (withArtTick b n) (ringFull s = true) (returnOnQueueFull (transmitEnqueue f s))
    (returnOk (transmitEnqueue f s))).symm

theorem parseFrame_withArtTick (ext rtr : Bool) (id : BitVec 32) (len8 : Byte) (data : Vector Byte 8) :
    parseFrame ext rtr id len8 data (withArtTick b n s) = withArtTick b n (parseFrame ext rtr id len8 data s) := by
  rw [parseFrame, parseFrame, queueFrame_withArtTick]
  exact (apply_ite (withArtTick b n) (lengthLegal len8 = true) (queueFrame (commandFrame ext rtr id len8 data) s)
    (raise .parseError s)).symm

theorem submitPopped_withArtTick (f : Frame) :
    submitPopped f (withArtTick b n s) = withArtTick b n (submitPopped f s) := by
  cases h : s.ctl.accepts <;> simp [submitPopped, ctlSubmit, withArtTick, h] <;> rfl

theorem serviceTransmit_withArtTick : serviceTransmit (withArtTick b n s) = withArtTick b n (serviceTransmit s) := by
  have hsubmit := submitPopped_withArtTick b n (ringPop (ctlTxip s)) s.q[s.tail]
  unfold serviceTransmit
  rw [apply_ite (withArtTick b n), apply_ite (withArtTick b n), ← hsubmit]
  rfl

theorem appendByte_withArtTick (c : Byte) : appendByte c (withArtTick b n s) = withArtTick b n (appendByte c s) :=
  (apply_ite (withArtTick b n) (s.len.val < Config.lineCap) (storeByte (nextIndex s) c s)
    (storeByte (nextIndex s) c (s.setLen 0))).symm

theorem consultPending_withArtTick : consultPending (withArtTick b n s) = withArtTick b n (consultPending s) := by
  cases s with | mk bus => cases bus <;> rfl

theorem receiveDrain_withArtTick : receiveDrain (withArtTick b n s) = withArtTick b n (receiveDrain s) :=
  (apply_ite (withArtTick b n) (receivePending s = true) (ctlRxClear (ctlRxRead (drainedFrame s) s))
    (ctlRxClear (ctlRxRead (drainedFrame s) s.nextDraw))).symm

theorem writeEncoded_withArtTick (out : List Byte) (count : Int) :
    writeEncoded out count (withArtTick b n s) = withArtTick b n (writeEncoded out count s) :=
  (apply_ite (withArtTick b n) (0 < count) (outWrite out s) s).symm

theorem thenResetLine_mapNext (o : Host.Outcome State Fault Refusal) :
    thenResetLine (mapNext (withArtTick b n) o) = mapNext (withArtTick b n) (thenResetLine o) := by
  cases o <;> rfl

/-- The environment's move looks at the mask and the schedule; the tick it adds to is read by nothing. -/
theorem envStep_withArtTick : ∃ n', ∀ b, envStep (withArtTick b n s) = withArtTick b n' (envStep s) := by
  refine ⟨if s.im then n else n + (envNext s).ticks, fun b => ?_⟩
  rw [envStep_eq, envStep_eq]
  rfl

end

/-! ### Commands, phases and the whole step -/

/-- An operation that never writes ART, as a step. -/
theorem blind_of_comm {f : State → State} {s : State} (hf : ∀ b n, f (withArtTick b n s) = withArtTick b n (f s)) :
    BlindToArtTick (fun s => .next (f s)) s :=
  ⟨none, fun b n => congrArg Host.Outcome.next (hf b n)⟩

/-- `set_autoretransmit` is the one operation that writes ART, with a value that is not read from it (R128). -/
theorem blind_setAutoretransmit (v : Bool) (s : State) :
    BlindToArtTick (fun s => .next (returnOk (setAutoretransmit v s))) s := by
  cases s with | mk bus =>
  cases bus with
  | offBus => exact ⟨some v, fun _ _ => rfl⟩
  | onBus => exact ⟨none, fun _ _ => rfl⟩

theorem blind_exec (i : Instr) (s : State) : BlindToArtTick (exec i) s := by
  cases i with
  | openBus =>
    refine blind_of_comm (f := fun s => openReturn (enable s)) fun b n => ?_
    rw [enable_withArtTick, openReturn_withArtTick]
  | closeBus => exact blind_of_comm (f := fun s => returnOk (disable s)) fun b n => by rw [disable_withArtTick]; rfl
  | setBitrate d =>
    refine blind_of_comm (f := fun s => if selectorLegal d then returnOk (setBitrate d.toNat s) else raise .parseError s)
      fun b n => ?_
    rw [setBitrate_withArtTick, apply_ite (withArtTick b n)]
    rfl
  | setModeLower d | setModeUpper d =>
    exact blind_of_comm (f := fun s => returnOk (setListenOnly (digitIsOne d) s))
      fun b n => by rw [setListenOnly_withArtTick]; rfl
  | setAutoLower d | setAutoUpper d => exact blind_setAutoretransmit (digitIsOne d) s
  | version => exact blind_of_comm (f := returnOk) fun _ _ => rfl
  | dataStd id len8 data => exact blind_of_comm fun b n => parseFrame_withArtTick b n s false false id len8 data
  | dataExt id len8 data => exact blind_of_comm fun b n => parseFrame_withArtTick b n s true false id len8 data
  | remoteStd id len8 data => exact blind_of_comm fun b n => parseFrame_withArtTick b n s false true id len8 data
  | remoteExt id len8 data => exact blind_of_comm fun b n => parseFrame_withArtTick b n s true true id len8 data

/-- The command a line holds does not depend on ART or the tick. -/
theorem blind_dispatchLine (s : State) : BlindToArtTick dispatchLine s := by
  have hdec : ∀ b n, decodeLine (withArtTick b n s) = decodeLine s := fun _ _ => rfl
  unfold BlindToArtTick dispatchLine
  simp only [hdec]
  cases decodeLine s with
  | ok i =>
    obtain ⟨w, hw⟩ := blind_exec i (beginDecode s)
    exact ⟨w, fun b n => by rw [← thenResetLine_mapNext, ← hw b n]; rfl⟩
  | error r => exact ⟨none, fun _ _ => rfl⟩

theorem blind_accumulate (c : Byte) (s : State) : BlindToArtTick (accumulate c) s := by
  by_cases hc : c = Config.term
  · simpa [BlindToArtTick, accumulate, hc] using blind_dispatchLine s
  · simpa [BlindToArtTick, accumulate, hc] using blind_of_comm (appendByte_withArtTick · · s c)

theorem stepInput_waiting {s : State} (ho : s.opening = true) :
    stepInput s = .next (resetLine (openReturn (enableWait s))) := by rw [stepInput, if_pos ho]

theorem stepInput_ended {s : State} (ho : s.opening = false) (hi : s.inbound = []) :
    stepInput s = .next (endInput (inAvail (s.setIm true))) := by simp [stepInput, ho, drainInput, hi]

theorem blind_stepInput (s : State) : BlindToArtTick stepInput s := by
  cases ho : s.opening with
  | true =>
    refine ⟨none, fun b n => ?_⟩
    rw [stepInput_waiting ho, stepInput_waiting (s := withArtTick b n s) ho, enableWait_withArtTick,
      openReturn_withArtTick]
    rfl
  | false =>
    cases hi : s.inbound with
    | nil =>
      refine ⟨none, fun b n => ?_⟩
      rw [stepInput_ended ho hi, stepInput_ended (s := withArtTick b n s) ho hi]
      rfl
    | cons c rest =>
      obtain ⟨w, hw⟩ := blind_accumulate c (tookByte c rest s)
      refine ⟨w, fun b n => ?_⟩
      rw [stepInput_taken ho hi, stepInput_taken (s := withArtTick b n s) ho hi]
      exact hw b n

theorem blind_stepReceive (s : State) : BlindToArtTick stepReceive s := by
  refine ⟨none, fun b n => ?_⟩
  have hpending : receivePending (withArtTick b n s) = receivePending s := rfl
  have hframe : drainedFrame (withArtTick b n s) = drainedFrame s := rfl
  simp only [stepReceive, hpending, hframe, consultPending_withArtTick, receiveDrain_withArtTick,
    writeEncoded_withArtTick]
  cases receivePending s with
  | false => rfl
  | true => cases encodeFrame (drainedFrame s) <;> rfl

/-- No phase of the sequencer reads ART or the tick. -/
theorem blind_sequencerStep (s : State) : BlindToArtTick sequencerStep s := by
  have hph : ∀ b n, (withArtTick b n s).ph = s.ph := fun _ _ => rfl
  unfold BlindToArtTick sequencerStep
  simp only [hph]
  cases s.ph with
  | p1Input => exact blind_stepInput s
  | p2Led => exact blind_of_comm (f := stepLed) fun _ _ => rfl
  | p3TxSvc => exact blind_of_comm (f := stepTransmit) fun b n => by rw [stepTransmit, serviceTransmit_withArtTick]; rfl
  | p4RxSvc => exact blind_stepReceive s

/-- The whole step from another ART and another tick: the same next state but for a tick `n'` that depends on the tick alone, and for
ART, which is the value `w` the step writes or else the one it found. -/
theorem step_withArtTick {s t : State} (h : step s = .next t) :
    ∃ w : Option Bool, ∀ n, ∃ n', ∀ b, step (withArtTick b n s) = .next (withArtTick (w.getD b) n' t) := by
  obtain ⟨w, hw⟩ := blind_sequencerStep s
  rcases sequencerStep_inv s with ⟨u, hu, -⟩ | ⟨hr, -⟩
  · have ht : envStep u = t := by simpa [step, hu, thenEnvStep] using h
    refine ⟨w, fun n => ?_⟩
    obtain ⟨n', hn'⟩ := envStep_withArtTick n u
    refine ⟨n', fun b => ?_⟩
    rw [step, hw b n, hu, ← ht, ← hn']
    rfl
  · simp [step, hr, thenEnvStep] at h

/-- Settles O56: with the tick as it was, the next tick is `t`'s own. -/
theorem autoRetransmitBitIsInert : Obligations.AutoRetransmitBitIsInert := by
  intro b s t h
  obtain ⟨w, hw⟩ := step_withArtTick h
  obtain ⟨n', hn'⟩ := hw s.tick
  have hself : t = withArtTick (w.getD s.art) n' t := by simpa [withArtTick_self, h] using hn' s.art
  have htick : n' = t.tick := (congrArg State.tick hself).symm
  subst htick
  exact ⟨w.getD b, hn' b⟩

/-- Settles O57: with ART as it was, the next ART is `t`'s own. -/
theorem tickIsReadByNothing : Obligations.TickIsReadByNothing := by
  intro n s t h
  obtain ⟨w, hw⟩ := step_withArtTick h
  obtain ⟨n₀, hn₀⟩ := hw s.tick
  have hself : t = withArtTick (w.getD s.art) n₀ t := by simpa [withArtTick_self, h] using hn₀ s.art
  have hart : w.getD s.art = t.art := (congrArg State.art hself).symm
  obtain ⟨n', hn'⟩ := hw n
  exact ⟨n', hart ▸ hn' s.art⟩

end Sys2Proof.Proofs.State
end

section
/-! PROOFS. The statement of spec/20_memory.md about command lines (R74): what one byte of P1 does, what the accumulated bytes are
then, and that the bytes of a command run that command. -/

namespace Sys2Proof.Proofs.Memory
open Sys2Proof Sys2Proof.Machine

/-! ### Steps of P1 (R201, R202) -/

theorem step_of_sequencerStep {s t : State} (h : sequencerStep s = .next t) : step s = .next (envStep t) :=
  (stepsThrough_iff.2 h).2

theorem step_appends {s : State} {b : Byte} {rest : List Byte} (hp : s.ph = .p1Input) (ho : s.opening = false)
    (hi : s.inbound = b :: rest) (hb : b ≠ Config.term) : step s = .next (envStep (appendByte b (tookByte b rest s))) := by
  apply step_of_sequencerStep
  rw [sequencerStep, hp]
  simp only [stepInput_taken ho hi, accumulate, hb, if_false]

theorem step_commands {s t : State} {i : Instr} {rest : List Byte} (hp : s.ph = .p1Input) (ho : s.opening = false)
    (hi : s.inbound = Config.term :: rest) (hd : decode s.draws (lineBytes s) = .ok i)
    (ht : exec i (beginDecode (tookByte Config.term rest s)) = .next t) : step s = .next (envStep (resetLine t)) := by
  apply step_of_sequencerStep
  have hline : decodeLine (tookByte Config.term rest s) = .ok i := hd
  rw [sequencerStep, hp]
  simp only [stepInput_taken ho hi, accumulate, if_true, dispatchLine, hline, ht, thenResetLine]

/-! ### The accumulated bytes (R90, R202, R203) -/

theorem lineBytes_getElem {s : State} {p : Nat} (h : p < (lineBytes s).length) :
    (lineBytes s)[p] = s.line[p]'(Nat.lt_of_lt_of_le (length_lineBytes s ▸ h) (Nat.le_of_lt_succ s.len.isLt)) := by
  simp [lineBytes]

@[simp] theorem lineBytes_envStep (s : State) : lineBytes (envStep s) = lineBytes s := by
  simp only [lineBytes, envStep_line, envStep_len]

@[simp] theorem lineBytes_tookByte (b : Byte) (rest : List Byte) (s : State) : lineBytes (tookByte b rest s) = lineBytes s := rfl

theorem lineBytes_appendByte_room {s : State} (b : Byte) (h : s.len.val < 30) :
    lineBytes (appendByte b s) = lineBytes s ++ [b] := by
  have hlen : (appendByte b s).len.val = s.len.val + 1 := by
    rw [appendByte_room b h]
    exact Nat.mod_eq_of_lt (by omega)
  apply List.ext_getElem
  · simp [hlen]
  · intro p hp _
    rw [lineBytes_getElem, List.getElem_append]
    simp only [appendByte_room b h, Vector.getElem_set, length_lineBytes, lineBytes_getElem, List.getElem_singleton]
    rw [length_lineBytes, hlen] at hp
    rcases Nat.lt_succ_iff_lt_or_eq.1 hp with hlt | rfl
    · rw [if_neg hlt.ne', dif_pos hlt]
    · rw [if_pos rfl, dif_neg (Nat.lt_irrefl _)]

theorem lineBytes_appendByte_full {s : State} (b : Byte) (h : s.len.val = 30) : lineBytes (appendByte b s) = [b] := by
  have hlen : (appendByte b s).len.val = 1 := by rw [appendByte_full b h]; rfl
  apply List.ext_getElem
  · simp [hlen]
  · intro p hp _
    obtain rfl : p = 0 := by rw [length_lineBytes, hlen] at hp; omega
    rw [lineBytes_getElem]
    simp [appendByte_full b h]

theorem lineBytes_appendByte (b : Byte) (s : State) :
    lineBytes (appendByte b s) = if (lineBytes s).length < 30 then lineBytes s ++ [b] else [b] := by
  rw [length_lineBytes]
  split
  next h => exact lineBytes_appendByte_room b h
  next h => exact lineBytes_appendByte_full b (Nat.le_antisymm (Nat.le_of_lt_succ s.len.isLt) (Nat.le_of_not_lt h))

/-! ### The line of a command decodes to it (R92, R95 to R98) -/

theorem encodeFits (i : Instr) : Laws.EncodeFits.Statement i := by
  cases i with
  | openBus => exact Laws.EncodeFits.openBus
  | closeBus => exact Laws.EncodeFits.closeBus
  | setBitrate d => exact Laws.EncodeFits.setBitrate d
  | setModeLower d => exact Laws.EncodeFits.setModeLower d
  | setModeUpper d => exact Laws.EncodeFits.setModeUpper d
  | setAutoLower d => exact Laws.EncodeFits.setAutoLower d
  | setAutoUpper d => exact Laws.EncodeFits.setAutoUpper d
  | version => exact Laws.EncodeFits.version
  | dataStd id len8 data => exact Laws.EncodeFits.dataStd id len8 data
  | dataExt id len8 data => exact Laws.EncodeFits.dataExt id len8 data
  | remoteStd id len8 data => exact Laws.EncodeFits.remoteStd id len8 data
  | remoteExt id len8 data => exact Laws.EncodeFits.remoteExt id len8 data

/-- The operands of a spelled frame line with `count` identifier nybbles, whatever its opcode and what trails it: the length nybble
stands after the identifier, the payload after the length. -/
theorem frameOperands_read (n count : Nat) (op : Byte) (id : BitVec 32) {len8 : Byte} (data : Vector Byte 8)
    (trailing : List Byte) (h : len8.toNat < 16) :
    nyb n (op :: (idChars count id ++ digitChar len8 :: (dataChars data ++ trailing))) (count + 1) = len8 ∧
    assembleData n (op :: (idChars count id ++ digitChar len8 :: (dataChars data ++ trailing))) (count + 2) = data := by
  constructor
  · simpa using nyb_digitChar n (op :: idChars count id) (dataChars data ++ trailing) h
  · simpa using assembleData_dataChars n (op :: (idChars count id ++ [digitChar len8])) trailing data

theorem nyb_digitLine (n : Nat) (op : Byte) {d : Byte} (trailing : List Byte) (h : digitOk d = true) :
    nyb n (op :: digitChar d :: trailing) 1 = d :=
  nyb_digitChar n [op] trailing ((digitOk_iff d).1 h)

/-- R104, R109: each format is read at the positions it was spelled at, and what trails it is not read. -/
theorem decode_encode (n : Nat) {i : Instr} (trailing : List Byte) (h : i.wellFormed = true) :
    decode n (encode i ++ trailing) = .ok i := by
  cases i with
  | openBus | closeBus | version => rfl
  | setBitrate d => exact congrArg (Except.ok ∘ Instr.setBitrate) (nyb_digitLine n _ trailing h)
  | setModeLower d => exact congrArg (Except.ok ∘ Instr.setModeLower) (nyb_digitLine n _ trailing h)
  | setModeUpper d => exact congrArg (Except.ok ∘ Instr.setModeUpper) (nyb_digitLine n _ trailing h)
  | setAutoLower d => exact congrArg (Except.ok ∘ Instr.setAutoLower) (nyb_digitLine n _ trailing h)
  | setAutoUpper d => exact congrArg (Except.ok ∘ Instr.setAutoUpper) (nyb_digitLine n _ trailing h)
  | dataStd id len8 data | remoteStd id len8 data =>
    rw [Instr.wellFormed, Bool.and_eq_true, stdIdOk_iff, digitOk_iff] at h
    obtain ⟨hid, hlen⟩ := h
    have hread := fun op => frameOperands_read n 3 op id data trailing hlen
    simp only [Nat.reduceAdd] at hread
    simp only [encode, decode, opcodeByte, List.cons_append, List.append_assoc, List.headD_cons, Config.idNybbles_std,
      lengthPos_std, dataPos_std, assembleId_three n _ id _ hid, hread]
  | dataExt id len8 data | remoteExt id len8 data =>
    rw [Instr.wellFormed, digitOk_iff] at h
    have hread := fun op => frameOperands_read n 8 op id data trailing h
    simp only [Nat.reduceAdd] at hread
    simp only [encode, decode, opcodeByte, List.cons_append, List.append_assoc, List.headD_cons, Config.idNybbles_ext,
      lengthPos_ext, dataPos_ext, assembleId_eight n _ id _, hread]

/-! ### A line read byte by byte -/

/-- The block's registers that taking a byte, storing it and converting a line leave alone, and the outbound stream. -/
def commandRegisters (s : State) :=
  (s.bus, s.rate, s.lom, s.art, s.q, s.head, s.tail, s.rxf, s.qfullCnt, s.txfailCnt, s.decStatus, s.outbound)

theorem commandRegisters_envStep (s : State) : commandRegisters (envStep s) = commandRegisters s := by
  rw [envStep_eq]
  rfl

theorem commandRegisters_beginDecode (s : State) : commandRegisters (beginDecode s) = commandRegisters s := by
  simp [commandRegisters]

/-- `s` between two bytes of P1, outside a wait, with the accumulated bytes `line` and the inbound stream `bytes`. -/
structure Accumulating (line bytes : List Byte) (s : State) : Prop where
  phase : s.ph = .p1Input
  notWaiting : s.opening = false
  held : lineBytes s = line
  coming : s.inbound = bytes

/-- A byte that is no terminator and finds room goes from the inbound stream to the end of the line (R202). -/
theorem step_accumulating {s : State} {line bytes : List Byte} {b : Byte} (h : Accumulating line (b :: bytes) s)
    (hb : b ≠ Config.term) (hroom : line.length < 30) :
    ∃ t more, step s = .next t ∧ Accumulating (line ++ [b]) (bytes ++ more) t ∧ commandRegisters t = commandRegisters s := by
  obtain ⟨hp, ho, hl, hi⟩ := h
  have hgrown : lineBytes (appendByte b (tookByte b bytes s)) = line ++ [b] := by
    rw [lineBytes_appendByte, lineBytes_tookByte, hl, if_pos hroom]
  obtain ⟨l, n, happ⟩ := State.appendByte_writes b (tookByte b bytes s)
  have hstep := step_appends hp ho hi hb
  rw [happ] at hstep hgrown
  refine ⟨_, (envNext (((tookByte b bytes s).setLine l).setLen n)).bytes, hstep, ⟨?_, ?_, ?_, ?_⟩, ?_⟩
  · rw [envStep_ph]
    exact hp
  · rw [envStep_opening]
    exact ho
  · simpa using hgrown
  · rw [envStep_eq]
    rfl
  · rw [commandRegisters_envStep]
    rfl

/-- Bytes that hold no terminator and fit are taken one a step. -/
theorem run_accumulating {text : List Byte} (htext : ∀ b ∈ text, b ≠ Config.term) (k : Nat) :
    ∀ {s : State} {line rest : List Byte}, Accumulating line (text ++ rest) s → line.length + text.length ≤ 30 →
    ∃ t more, run (text.length + k) s = run k t ∧ Accumulating (line ++ text) (rest ++ more) t ∧
      commandRegisters t = commandRegisters s := by
  induction text with
  | nil =>
    intro s line rest h _
    exact ⟨s, [], by simp, by simpa using h, rfl⟩
  | cons b text ih =>
    intro s line rest h hroom
    rw [List.length_cons] at hroom
    obtain ⟨u, more, hstep, hu, hregs⟩ := step_accumulating h (htext b List.mem_cons_self) (by omega)
    rw [List.append_eq, List.append_assoc] at hu
    obtain ⟨t, more', hrun, ht, hregs'⟩ := ih (fun c hc => htext c (List.mem_cons_of_mem b hc)) hu
      (by rw [List.length_append, List.length_singleton]; omega)
    refine ⟨t, more ++ more', ?_, by simpa using ht, hregs'.trans hregs⟩
    rw [List.length_cons, Nat.add_right_comm, run_succ_of_next _ hstep, hrun]

/-- A terminator runs the command the line decodes to, on a state with the same registers (R202). -/
theorem step_terminator {s : State} {line rest : List Byte} {i : Instr} (h : Accumulating line (Config.term :: rest) s)
    (hd : decode s.draws line = .ok i) :
    ∃ u t, exec i u = .next t ∧ step s = .next (envStep (resetLine t)) ∧ commandRegisters u = commandRegisters s ∧
      u.ph = .p1Input ∧ u.im = true ∧ u.inbound = rest := by
  obtain ⟨hp, ho, hl, hi⟩ := h
  obtain ⟨t, ht, -⟩ := exec_inv i (beginDecode (tookByte Config.term rest s))
  exact ⟨_, t, ht, step_commands hp ho hi (hl ▸ hd) ht, commandRegisters_beginDecode _, (beginDecode_ph _).trans hp,
    beginDecode_im _, beginDecode_inbound _⟩

/-- Settles O39: the bytes are taken one a step (`run_accumulating`), the line then held decodes to the command (`decode_encode`), and
the terminator's step executes it (`step_terminator`). -/
theorem commandLineRunsItsCommand : Obligations.CommandLineRunsItsCommand := by
  intro i rest s hwf hp ho hlen hi
  obtain ⟨hfits, hterm⟩ := encodeFits i
  rw [longestLine_eq] at hfits
  have hempty : lineBytes s = [] := List.length_eq_zero_iff.1 (by rw [length_lineBytes, hlen]; rfl)
  obtain ⟨r, more, hrun, hr, hregs⟩ := run_accumulating hterm 1 ⟨hp, ho, hempty, hi⟩ (by rw [List.length_nil]; omega)
  have hdec : decode r.draws ([] ++ encode i) = .ok i := by simpa using decode_encode r.draws [] hwf
  obtain ⟨u, t, ht, hstep, hu, hph, him, hin⟩ := step_terminator hr hdec
  have hfinal : run ((encode i).length + 1) s = .next (envStep (resetLine t)) := by
    rw [hrun, run_succ_of_next 0 hstep, run_zero]
  have hkept : commandRegisters u = commandRegisters s := hu.trans hregs
  simp only [commandRegisters, Prod.mk.injEq] at hkept
  obtain ⟨hbus, hrate, hlom, hart, hq, hhead, htail, hrxf, hqfull, htxfail, hstatus, hout⟩ := hkept
  exact ⟨u, t, more, ht, hfinal, hbus, hrate, hlom, hart, hq, hhead, htail, hrxf, hqfull, htxfail, hstatus, hout, hph, him,
    hin⟩

end Sys2Proof.Proofs.Memory
end

section
/-! PROOFS. The statement of spec/20_memory.md that stale bytes of LINE are never read (R64, R32; log 3). Every operation but the
accumulator and the conversion pass commutes with writing other bytes into LINE (`LineBlind`); these two read no more than the bytes
of the current line. -/

namespace Sys2Proof.Proofs.Memory
open Sys2Proof Sys2Proof.Machine

/-! ### Operations that do not look at LINE -/

/-- `f` neither reads nor writes the bytes of LINE, and does not lengthen the line. -/
structure LineBlind (f : State → State) : Prop where
  comm : ∀ (l : Vector Byte Config.lineCap) (s : State), f (s.setLine l) = (f s).setLine l
  shortens : ∀ s : State, (f s).len ≤ s.len

namespace LineBlind

/-- An update of other fields, with values that do not come from LINE. -/
theorem unread {f : State → State} (hcomm : ∀ l s, f (s.setLine l) = (f s).setLine l := by intros; rfl)
    (hlen : ∀ s, (f s).len = s.len := by intros; rfl) : LineBlind f := ⟨hcomm, fun s => (hlen s).le⟩

theorem same : LineBlind fun s => s := unread

theorem comp {f g : State → State} (hf : LineBlind f) (hg : LineBlind g) : LineBlind fun s => f (g s) where
  comm l s := by rw [hg.comm, hf.comm]
  shortens s := (hf.shortens (g s)).trans (hg.shortens s)

/-- A choice by a condition that does not look at LINE. -/
theorem choice {f g : State → State} {c : State → Prop} [DecidablePred c] (hf : LineBlind f) (hg : LineBlind g)
    (hc : ∀ l s, c (s.setLine l) ↔ c s := by exact fun _ _ => Iff.rfl) : LineBlind fun s => if c s then f s else g s where
  comm l s := by
    rw [hf.comm, hg.comm, ← apply_ite (State.setLine l)]
    exact congrArg (State.setLine l) (if_congr (hc l s) rfl rfl)
  shortens s := by
    split
    · exact hf.shortens s
    · exact hg.shortens s

/-- A choice by the bus state. -/
theorem byBus {f off on : State → State} (hoff : ∀ s, s.bus = .offBus → f s = off s) (hon : ∀ s, s.bus = .onBus → f s = on s)
    (foff : LineBlind off) (fon : LineBlind on) : LineBlind f where
  comm l s := by
    cases h : s.bus with
    | offBus => rw [hoff s h, hoff (s.setLine l) h, foff.comm]
    | onBus => rw [hon s h, hon (s.setLine l) h, fon.comm]
  shortens s := by
    cases h : s.bus with
    | offBus => rw [hoff s h]; exact foff.shortens s
    | onBus => rw [hon s h]; exact fon.shortens s

/-! ### The controller driver (R120 to R134) -/

theorem enableWait : LineBlind enableWait := choice unread same

theorem enable : LineBlind enable :=
  byBus (fun _ => enable_offBus) (fun _ => enable_onBus) (enableWait.comp (g := enableBegin) unread) same

theorem disable : LineBlind disable := byBus (fun _ => disable_offBus) (fun _ => disable_onBus) same unread

theorem setBitrate (sel : Nat) : LineBlind (setBitrate sel) :=
  byBus (fun _ => setBitrate_offBus sel) (fun _ => setBitrate_onBus sel) unread same

theorem setListenOnly (b : Bool) : LineBlind (setListenOnly b) :=
  byBus (fun _ => setListenOnly_offBus b) (fun _ => setListenOnly_onBus b) unread same

theorem setAutoretransmit (b : Bool) : LineBlind (setAutoretransmit b) :=
  byBus (fun _ => setAutoretransmit_offBus b) (fun _ => setAutoretransmit_onBus b) unread same

theorem transmitEnqueue (f : Frame) : LineBlind (transmitEnqueue f) := choice unread unread

/-- The submit of the frame at TAIL, popped (R130). -/
theorem submitOldest : LineBlind fun s => ctlSubmit s.q[s.tail] (ringPop (ctlTxip s)) := choice unread unread

theorem serviceTransmit : LineBlind serviceTransmit :=
  choice same (choice unread (choice submitOldest (LineBlind.comp (f := countWriteRejected) unread submitOldest)))

theorem consultPending : LineBlind consultPending :=
  byBus (fun _ => consultPending_offBus) (fun _ => consultPending_onBus) same unread

theorem receiveDrain : LineBlind receiveDrain :=
  choice (unread (hlen := fun _ => by simp [ctlRxClear, ctlRxRead])) (unread (hlen := fun _ => by simp [ctlRxClear, ctlRxRead]))

theorem writeEncoded (out : List Byte) (count : Int) : LineBlind (writeEncoded out count) :=
  choice unread same

/-! ### Commands (R150 to R166) -/

theorem returnOk : LineBlind returnOk := unread

theorem openReturn : LineBlind openReturn := choice same returnOk

theorem queueFrame (f : Frame) : LineBlind (queueFrame f) :=
  choice (LineBlind.comp (f := returnOnQueueFull) unread (transmitEnqueue f)) (returnOk.comp (transmitEnqueue f))

theorem parseFrame (ext rtr : Bool) (id : BitVec 32) (len8 : Byte) (data : Vector Byte 8) :
    LineBlind (parseFrame ext rtr id len8 data) :=
  choice (queueFrame (commandFrame ext rtr id len8 data)) unread

/-- Every command is such an operation: it answers the state `f` gives. -/
theorem exec (i : Instr) : ∃ f, LineBlind f ∧ ∀ s, Machine.exec i s = .next (f s) := by
  cases i with
  | openBus => exact ⟨_, openReturn.comp enable, fun _ => rfl⟩
  | closeBus => exact ⟨_, returnOk.comp disable, fun _ => rfl⟩
  | setBitrate d =>
    exact ⟨fun s => if selectorLegal d then Machine.returnOk (Machine.setBitrate d.toNat s) else returnFail s,
      choice (returnOk.comp (setBitrate d.toNat)) unread, fun _ => rfl⟩
  | setModeLower d | setModeUpper d => exact ⟨_, returnOk.comp (setListenOnly (digitIsOne d)), fun _ => rfl⟩
  | setAutoLower d | setAutoUpper d => exact ⟨_, returnOk.comp (setAutoretransmit (digitIsOne d)), fun _ => rfl⟩
  | version => exact ⟨_, returnOk, fun _ => rfl⟩
  | dataStd id len8 data => exact ⟨_, parseFrame false false id len8 data, fun _ => rfl⟩
  | dataExt id len8 data => exact ⟨_, parseFrame true false id len8 data, fun _ => rfl⟩
  | remoteStd id len8 data => exact ⟨_, parseFrame false true id len8 data, fun _ => rfl⟩
  | remoteExt id len8 data => exact ⟨_, parseFrame true true id len8 data, fun _ => rfl⟩

/-! ### The sequencer and the environment -/

theorem resetLine : LineBlind resetLine where
  comm _ _ := rfl
  shortens s := by
    rw [Machine.resetLine]
    split
    · exact le_rfl
    · exact Fin.zero_le _

theorem envStep : LineBlind envStep :=
  unread (fun l s => by rw [envStep_eq, envStep_eq]; rfl) envStep_len

theorem tookByte (b : Byte) (rest : List Byte) : LineBlind (tookByte b rest) := unread

/-- What such an operation does not read, it does not write. -/
theorem line {f : State → State} (hf : LineBlind f) (s : State) : (f s).line = s.line :=
  (congrArg (fun t : State => t.line) (hf.comm s.line s)).trans (State.setLine_line _ _)

/-- Such an operation keeps two states alike that differ in stale bytes: the bytes beyond the old LEN are beyond the new one. -/
theorem sameButStaleLine {f : State → State} (hf : LineBlind f) {s s' : State} (h : SameButStaleLine s s') :
    SameButStaleLine (f s) (f s') := by
  obtain ⟨l, rfl⟩ : ∃ l, s' = s.setLine l := ⟨_, h.1⟩
  have hle : (f s).len.val ≤ s.len.val := hf.shortens s
  have hold : l.toList.take s.len.val = s.line.toList.take s.len.val := h.2
  rw [hf.comm]
  refine ⟨rfl, ?_⟩
  calc l.toList.take (f s).len.val
      = (l.toList.take s.len.val).take (f s).len.val := by rw [List.take_take, Nat.min_eq_left hle]
    _ = (s.line.toList.take s.len.val).take (f s).len.val := by rw [hold]
    _ = lineBytes (f s) := by rw [List.take_take, Nat.min_eq_left hle, lineBytes, hf.line]

end LineBlind

/-! ### The accumulator and the conversion pass -/

/-- What does not look at LINE does not tell the two states apart. -/
theorem eq_of_sameButStaleLine {α : Type} (g : State → α) {s s' : State} (h : SameButStaleLine s s')
    (hg : ∀ l s, g (s.setLine l) = g s := by intros; rfl) : g s' = g s := (congrArg g h.1).trans (hg s'.line s)

/-- The new byte is written at LEN, or at 0 in a new line of one byte: no stale byte becomes part of the line (R202, R203). -/
theorem appendByte_sameButStaleLine (b : Byte) {s s' : State} (h : SameButStaleLine s s') :
    SameButStaleLine (appendByte b s) (appendByte b s') := by
  refine ⟨?_, by rw [lineBytes_appendByte, lineBytes_appendByte, h.2]⟩
  obtain ⟨l, rfl⟩ : ∃ l, s' = s.setLine l := ⟨_, h.1⟩
  by_cases hroom : s.len.val < 30
  · rw [appendByte_room b hroom, appendByte_room (s := s.setLine l) b hroom]
    rfl
  · have hfull : s.len.val = 30 := Nat.le_antisymm (Nat.le_of_lt_succ s.len.isLt) (Nat.le_of_not_lt hroom)
    rw [appendByte_full b hfull, appendByte_full (s := s.setLine l) b hfull]
    rfl

/-- The converted line, from the bytes of the line alone (R95). -/
theorem lineBytes_beginDecode (s : State) :
    lineBytes (beginDecode s) = (lineBytes s).mapIdx fun p c => if 1 ≤ p then convertChar s.draws p c else c := by
  apply List.ext_getElem
  · simp
  · intro p hp _
    have hlt : p < s.len.val := by simpa using hp
    have hconv := convertLine_get s ⟨p, Nat.lt_of_lt_of_le hlt (Nat.le_of_lt_succ s.len.isLt)⟩
    simp only [lineBytes_getElem, beginDecode_line, List.getElem_mapIdx]
    simpa [hlt] using hconv

theorem beginDecode_eq (s : State) : beginDecode s = (s.setLine (convertLine s).line).nextDraw := by
  rw [beginDecode, convertLine, State.setLine_line]

theorem beginDecode_sameButStaleLine {s s' : State} (h : SameButStaleLine s s') :
    SameButStaleLine (beginDecode s) (beginDecode s') := by
  have hdraws : s'.draws = s.draws := eq_of_sameButStaleLine State.draws h
  refine ⟨?_, by rw [lineBytes_beginDecode, lineBytes_beginDecode, h.2, hdraws]⟩
  obtain ⟨l, rfl⟩ : ∃ l, s' = s.setLine l := ⟨_, h.1⟩
  rw [beginDecode_eq s, beginDecode_eq (s.setLine l)]
  generalize (convertLine s).line = v, (convertLine (s.setLine l)).line = w
  rfl

/-! ### The whole step -/

/-- The two outcomes are next states that differ in stale bytes only, or the same refusal. -/
inductive SameOutcome : Host.Outcome State Fault Refusal → Host.Outcome State Fault Refusal → Prop where
  | next {t t' : State} : SameButStaleLine t t' → SameOutcome (.next t) (.next t')
  | refused (r : Refusal) : SameOutcome (.refused r) (.refused r)

/-- An operation that does not look at LINE, as a step. -/
theorem LineBlind.sameOutcome {f : State → State} (hf : LineBlind f) {s s' : State} (h : SameButStaleLine s s') :
    SameOutcome (.next (f s)) (.next (f s')) := .next (hf.sameButStaleLine h)

section
variable {s s' : State} (h : SameButStaleLine s s')
include h

theorem dispatchLine_sameOutcome : SameOutcome (dispatchLine s) (dispatchLine s') := by
  have hdraws : s'.draws = s.draws := eq_of_sameButStaleLine State.draws h
  have hline : decodeLine s' = decodeLine s := by rw [decodeLine, decodeLine, h.2, hdraws]
  have hbegun := beginDecode_sameButStaleLine h
  rw [dispatchLine, dispatchLine, hline]
  cases decodeLine s with
  | ok i =>
    obtain ⟨f, hf, hexec⟩ := LineBlind.exec i
    simp only [hexec, thenResetLine]
    exact (LineBlind.resetLine.comp hf).sameOutcome hbegun
  | error r => exact (LineBlind.resetLine.comp (g := returnFail) .unread).sameOutcome hbegun

theorem accumulate_sameOutcome (b : Byte) : SameOutcome (accumulate b s) (accumulate b s') := by
  by_cases hb : b = Config.term
  · rw [accumulate, accumulate, if_pos hb, if_pos hb]
    exact dispatchLine_sameOutcome h
  · rw [accumulate, accumulate, if_neg hb, if_neg hb]
    exact .next (appendByte_sameButStaleLine b h)

theorem stepInput_sameOutcome : SameOutcome (stepInput s) (stepInput s') := by
  have hopening : s'.opening = s.opening := eq_of_sameButStaleLine State.opening h
  have hinbound : s'.inbound = s.inbound := eq_of_sameButStaleLine State.inbound h
  cases ho : s.opening with
  | true =>
    rw [State.stepInput_waiting ho, State.stepInput_waiting (hopening.trans ho)]
    exact (LineBlind.resetLine.comp (LineBlind.openReturn.comp LineBlind.enableWait)).sameOutcome h
  | false =>
    cases hi : s.inbound with
    | nil =>
      rw [State.stepInput_ended ho hi, State.stepInput_ended (hopening.trans ho) (hinbound.trans hi)]
      exact LineBlind.sameOutcome (f := fun s => endInput (inAvail (s.setIm true))) .unread h
    | cons b rest =>
      rw [stepInput_taken ho hi, stepInput_taken (hopening.trans ho) (hinbound.trans hi)]
      exact accumulate_sameOutcome ((LineBlind.tookByte b rest).sameButStaleLine h) b

theorem stepReceive_sameOutcome : SameOutcome (stepReceive s) (stepReceive s') := by
  have hpending : receivePending s' = receivePending s := eq_of_sameButStaleLine receivePending h
  have hframe : drainedFrame s' = drainedFrame s := eq_of_sameButStaleLine drainedFrame h
  have hconsult := LineBlind.consultPending.sameButStaleLine h
  have hphase : LineBlind (State.setPh .p1Input) := .unread
  rw [stepReceive, stepReceive, hpending, hframe]
  split
  · cases encodeFrame (drainedFrame s) with
    | ok o => exact (hphase.comp ((LineBlind.writeEncoded o.1 o.2).comp LineBlind.receiveDrain)).sameOutcome hconsult
    | error r => exact .refused r
  · exact hphase.sameOutcome hconsult

theorem sequencerStep_sameOutcome : SameOutcome (sequencerStep s) (sequencerStep s') := by
  have hph : s'.ph = s.ph := eq_of_sameButStaleLine State.ph h
  rw [sequencerStep, sequencerStep, hph]
  cases s.ph with
  | p1Input => exact stepInput_sameOutcome h
  | p2Led => exact LineBlind.sameOutcome (f := stepLed) .unread h
  | p3TxSvc =>
    exact (LineBlind.comp (f := State.setPh .p4RxSvc) .unread LineBlind.serviceTransmit).sameOutcome h
  | p4RxSvc => exact stepReceive_sameOutcome h

theorem step_sameOutcome : SameOutcome (step s) (step s') := by
  have hseq := sequencerStep_sameOutcome h
  rw [step, step]
  generalize sequencerStep s = o, sequencerStep s' = o' at hseq
  cases hseq with
  | next ht => exact LineBlind.envStep.sameOutcome ht
  | refused r => exact .refused r

end

/-- Settles O55: the outcomes of the two steps are alike (`step_sameOutcome`), so the first decides the second. -/
theorem staleLineBytesAreNeverRead : Obligations.StaleLineBytesAreNeverRead := by
  intro s s' h
  have hstep := step_sameOutcome h
  generalize step s = o, step s' = o' at hstep
  cases hstep with
  | @next t t' ht =>
    refine ⟨fun u hu => ⟨t', rfl, ?_⟩, fun _ hu => nomatch hu⟩
    rwa [← Host.Outcome.next.inj hu]
  | refused r => exact ⟨fun _ hu => (nomatch hu), fun _ hr => hr⟩

end Sys2Proof.Proofs.Memory
end

section
/-! PROOFS. The statements of spec/20_memory.md about what a step may stop on (R65, R197) and about the iteration that serves a parsed
frame (R71, R74). -/

namespace Sys2Proof.Proofs.Memory
open Sys2Proof Sys2Proof.Machine

/-! ### Stops (R65, R197, R220) -/

/-- Settles O50: by the inversion of the sequencer's step, its only stop is P4's refusal of a pending frame whose length is illegal. -/
theorem stepStopsOnlyOnLongReceivedFrames : Obligations.StepStopsOnlyOnLongReceivedFrames := by
  intro s
  rcases sequencerStep_inv s with ⟨t, ht, -⟩ | ⟨hr, hph, hbus, hfav, hlen⟩
  · exact .inl ⟨envStep t, step_of_sequencerStep ht⟩
  · have hlong : 8 < s.ctl.rxMailbox.len.toNat := by
      rw [← Nat.not_le, ← frameLenOk_iff, hlen]
      decide
    exact .inr ⟨by rw [step, hr, thenEnvStep], hph, hbus, hfav, hlong⟩

/-! ### A frame parsed into an empty ring (R164, R129, R130) -/

theorem envStep_ctl_scheduled {s : State} {m : EnvMove} {ms : List EnvMove} (h : s.schedule = m :: ms) :
    (envStep s).ctl = m.ctl := by
  rw [envStep_eq, envNext, h]

theorem envStep_inbound_scheduled {s : State} {m : EnvMove} {ms : List EnvMove} (h : s.schedule = m :: ms) :
    (envStep s).inbound = s.inbound ++ m.bytes := by
  rw [envStep_eq, envNext, h]

theorem exec_frameCommand (ext rtr : Bool) (id : BitVec 32) (len8 : Byte) (data : Vector Byte 8) (s : State) :
    exec (frameCommand ext rtr id len8 data) s = .next (parseFrame ext rtr id len8 data s) := by
  cases ext <;> cases rtr <;> rfl

theorem parseFrame_room {len8 : Byte} {s : State} (ext rtr : Bool) (id : BitVec 32) (data : Vector Byte 8)
    (hlen : len8.toNat ≤ 8) (hfull : ringFull s = false) :
    parseFrame ext rtr id len8 data s = returnOk (ringPush ⟨ext, rtr, id, len8.setWidth 4, data⟩ s) := by
  rw [parseFrame, if_pos ((lengthLegal_iff len8).2 hlen), queueFrame, hfull, transmitEnqueue_room _ hfull]
  rfl

theorem ringFull_of_ringEmpty {s : State} (h : ringEmpty s = true) : ringFull s = false := by
  rw [State.ringEmpty_iff_occupancy] at h
  rw [← Bool.not_eq_true, State.ringFull_iff_occupancy, h]
  decide

/-- A frame command of legal length pushes its frame into an empty ring. -/
theorem exec_frameCommand_ringEmpty {len8 : Byte} {s : State} (ext rtr : Bool) (id : BitVec 32) (data : Vector Byte 8)
    (hlen : len8.toNat ≤ 8) (hempty : ringEmpty s = true) :
    exec (frameCommand ext rtr id len8 data) s =
      .next (returnOk (ringPush ⟨ext, rtr, id, len8.setWidth 4, data⟩ s)) := by
  rw [exec_frameCommand, parseFrame_room ext rtr id data hlen (ringFull_of_ringEmpty hempty)]

theorem queued_of_ringEmpty {s : State} (h : ringEmpty s = true) : queued s = [] := by
  rw [queued, (State.ringEmpty_iff_occupancy s).1 h, List.range_zero, List.map_nil]

theorem ringNext_ne (i : Fin Config.ringSlots) : ringNext i ≠ i := by
  have hi : i.val < 28 := i.isLt
  rw [Ne, Fin.ext_iff, ringNext_val]
  omega

theorem submitted_append (tr evs : List PortEvent) : submitted (tr ++ evs) = submitted tr ++ submitted evs :=
  List.filterMap_append

/-- `s` in phase `p` with the one frame `f` in the ring, the frames `before` submitted so far, and the environment's moves `ms` to
come. -/
structure HoldsFrame (p : Phase) (f : Frame) (before : List Frame) (ms : List EnvMove) (s : State) : Prop where
  phase : s.ph = p
  one : s.head = ringNext s.tail
  oldest : s.q[s.tail] = f
  submits : submitted s.trace = before
  moves : s.schedule = ms

/-- The environment's move uses up one scheduled move. -/
theorem HoldsFrame.envStep {p : Phase} {f : Frame} {before : List Frame} {m : EnvMove} {ms : List EnvMove} {s : State}
    (h : HoldsFrame p f before (m :: ms) s) : HoldsFrame p f before ms (envStep s) where
  phase := by rw [envStep_ph, h.phase]
  one := by rw [envStep_head, envStep_tail, h.one]
  oldest := by simpa using h.oldest
  submits := by rw [envStep_trace, h.submits]
  moves := by rw [envStep_eq, h.moves, List.tail_cons]

/-- What the dispatch of a frame's command leaves when the ring was empty. -/
theorem holdsFrame_ringPush {s : State} (f : Frame) (h : ringEmpty s = true) :
    HoldsFrame s.ph f (submitted s.trace) s.schedule (resetLine (returnOk (ringPush f s))) := by
  rw [State.ringEmpty_iff] at h
  exact ⟨rfl, congrArg ringNext h, by simp [resetLine, returnOk, ringPush, h], rfl, rfl⟩

/-- P1's step that takes the terminator of a frame's line leaves that one frame in the ring (R164, R202). -/
theorem step_parses {s : State} {ext rtr : Bool} {id : BitVec 32} {len8 : Byte} {data : Vector Byte 8} {m : EnvMove}
    {ms : List EnvMove} (hp : s.ph = .p1Input) (ho : s.opening = false) (hi : s.inbound = [Config.term])
    (hempty : ringEmpty s = true) (hlen : len8.toNat ≤ 8)
    (hd : decode s.draws (lineBytes s) = .ok (frameCommand ext rtr id len8 data)) (hs : s.schedule = m :: ms) :
    ∃ t, step s = .next t ∧
      HoldsFrame .p1Input ⟨ext, rtr, id, len8.setWidth 4, data⟩ (submitted s.trace) ms t ∧
      t.opening = false ∧ t.inbound = m.bytes := by
  obtain ⟨u, hu⟩ : ∃ u, u = beginDecode (tookByte Config.term [] s) := ⟨_, rfl⟩
  have hstep {t : State} (ht : exec (frameCommand ext rtr id len8 data) u = .next t) :
      step s = .next (envStep (resetLine t)) := step_commands hp ho hi hd (hu ▸ ht)
  have hemptyu : ringEmpty u = true := by
    rw [State.ringEmpty_iff] at hempty ⊢
    rw [hu, beginDecode_head, beginDecode_tail]
    exact hempty
  have hphase : u.ph = .p1Input := by rw [hu, beginDecode_ph]; exact hp
  have hmoves : u.schedule = m :: ms := by rw [hu, beginDecode_schedule]; exact hs
  have hsubmits : submitted u.trace = submitted s.trace := by
    rw [hu, beginDecode_trace, tookByte, submitted_append]
    exact List.append_nil _
  have hopening : u.opening = false := by rw [hu, beginDecode_opening]; exact ho
  have hinbound : u.inbound = [] := by rw [hu, beginDecode_inbound]; rfl
  have hpushed := holdsFrame_ringPush ⟨ext, rtr, id, len8.setWidth 4, data⟩ hemptyu
  rw [hphase, hmoves, hsubmits] at hpushed
  refine ⟨_, hstep (exec_frameCommand_ringEmpty ext rtr id data hlen hemptyu), hpushed.envStep, ?_, ?_⟩
  · rw [envStep_opening]
    exact hopening
  · rw [envStep_inbound_scheduled hpushed.moves]
    exact congrArg (· ++ m.bytes) hinbound

/-- The end of P1 leaves the ring and the submitted frames (R201). -/
theorem step_endsInput {s : State} {f : Frame} {before : List Frame} {m : EnvMove} {ms : List EnvMove}
    (h : HoldsFrame .p1Input f before (m :: ms) s) (ho : s.opening = false) (hi : s.inbound = []) :
    ∃ t, step s = .next t ∧ HoldsFrame .p2Led f before ms t := by
  have hseq : sequencerStep s = .next (endInput (inAvail (s.setIm true))) := by
    rw [sequencerStep, h.phase]
    exact State.stepInput_ended ho hi
  have hsubmits : submitted (endInput (inAvail (s.setIm true))).trace = before := by
    rw [← h.submits]
    exact (submitted_append s.trace _).trans (List.append_nil _)
  exact ⟨_, step_of_sequencerStep hseq, HoldsFrame.envStep ⟨rfl, h.one, h.oldest, hsubmits, h.moves⟩⟩

/-- P2 leaves the ring and the submitted frames (R204); P3 then meets the controller of the move that follows it. -/
theorem step_led {s : State} {f : Frame} {before : List Frame} {m : EnvMove} {ms : List EnvMove}
    (h : HoldsFrame .p2Led f before (m :: ms) s) :
    ∃ t, step s = .next t ∧ HoldsFrame .p3TxSvc f before ms t ∧ t.ctl = m.ctl := by
  have hseq : sequencerStep s = .next (stepLed s) := by rw [sequencerStep, h.phase]
  exact ⟨_, step_of_sequencerStep hseq, HoldsFrame.envStep ⟨rfl, h.one, h.oldest, h.submits, h.moves⟩,
    envStep_ctl_scheduled (s := stepLed s) h.moves⟩

/-- P3 with the controller idle submits the one frame and leaves the ring empty (R130, R205). -/
theorem step_transmits {s : State} {f : Frame} {before : List Frame} {ms : List EnvMove}
    (h : HoldsFrame .p3TxSvc f before ms s) (hidle : s.ctl.txip = false) :
    ∃ t, step s = .next t ∧ t.ph = .p4RxSvc ∧ queued t = [] ∧ submitted t.trace = before ++ [f] := by
  have hfull : ringEmpty s = false := by
    rw [← Bool.not_eq_true, State.ringEmpty_iff, h.one]
    exact ringNext_ne _
  have hserved : (serviceTransmit s).head = s.head ∧ (serviceTransmit s).tail = ringNext s.tail ∧
      submitted (serviceTransmit s).trace = submitted s.trace ++ [s.q[s.tail]] := by
    rcases serviceTransmit_cases s with ⟨he, _⟩ | ⟨_, ht, _⟩ | ⟨_, _, _, e⟩ | ⟨_, _, _, e⟩
    · rw [hfull] at he; cases he
    · rw [hidle] at ht; cases ht
    all_goals
      rw [e]
      exact ⟨rfl, rfl, submitted_append s.trace _⟩
  obtain ⟨hhead, htail, hsubmits⟩ := hserved
  have hempty : ringEmpty (envStep (stepTransmit s)) = true := by
    rw [State.ringEmpty_iff, envStep_head, envStep_tail]
    exact hhead.trans (h.one.trans htail.symm)
  have hseq : sequencerStep s = .next (stepTransmit s) := by rw [sequencerStep, h.phase]
  refine ⟨_, step_of_sequencerStep hseq, envStep_ph _, queued_of_ringEmpty hempty, ?_⟩
  rw [envStep_trace, ← h.submits, ← h.oldest]
  exact hsubmits

/-- Settles O58: the terminator's step, the end of P1, P2 and P3, each by its own lemma; the frame stays the only one in the ring
until P3 submits it. -/
theorem parsedFrameIsServedInTheSameIteration : Obligations.ParsedFrameIsServedInTheSameIteration := by
  intro ext rtr id len8 data s m1 m2 m3 m4 later hp ho hi hempty hlen hd hs hquiet hidle
  obtain ⟨s1, e1, h1, ho1, hi1⟩ := step_parses hp ho hi hempty hlen hd hs
  obtain ⟨s2, e2, h2⟩ := step_endsInput h1 ho1 (hi1.trans hquiet)
  obtain ⟨s3, e3, h3, hctl⟩ := step_led h2
  obtain ⟨s4, e4, hph, hqueued, hsubmitted⟩ := step_transmits h3 (by rw [hctl, hidle])
  refine ⟨s4, ?_, hph, hqueued, hsubmitted⟩
  rw [run_succ_of_next 3 e1, run_succ_of_next 2 e2, run_succ_of_next 1 e3, run_succ_of_next 0 e4, run_zero]

end Sys2Proof.Proofs.Memory
end

section
/-! PROOFS. The statements of spec/30_encoding.md about the characters, the operands and the lines they spell (R91 to R109): what a
nybble read gives, how the operands are assembled from nybble reads, and that the decoder looks at a line through its opcode byte and
its nybble reads only. -/

namespace Sys2Proof.Proofs.Encoding
open Sys2Proof Sys2Proof.Machine

/-! ### Well-formed lines (R92, R104, R109) -/

/-- Settles O18: each format is read back at the positions it was spelled at (`decode_encode`). -/
theorem decodeOfEncodeIsIdentity : Obligations.DecodeOfEncodeIsIdentity :=
  fun n _ trailing h => Memory.decode_encode n trailing h

/-- A line decodes to the well-formed command that is spelled so. -/
theorem decode_of_encode_eq (n : Nat) {i : Instr} {line : List Byte} (hline : encode i = line)
    (h : i.wellFormed = true) : decode n line = .ok i := by
  simpa [hline] using Memory.decode_encode n [] h

/-- Settles O20: each of the five lines is the spelling of its command. -/
theorem writtenOutLinesDecode : Obligations.WrittenOutLinesDecode := fun n =>
  ⟨decode_of_encode_eq n (by decide) (by decide), decode_of_encode_eq n (by decide) (by decide),
    decode_of_encode_eq n (by decide) (by decide), decode_of_encode_eq n (by decide) (by decide),
    decode_of_encode_eq n (by decide) (by decide)⟩

/-! ### Characters (R93, R94, R108) -/

theorem hexval_decimal {c : Byte} (h : 0x30 ≤ c.toNat ∧ c.toNat ≤ 0x39) :
    hexval c = some (BitVec.ofNat 8 (c.toNat - 0x30)) := by
  have hc : 0x30#8 ≤ c ∧ c ≤ 0x39#8 := h
  rw [hexval, if_pos hc]
  congr 1
  bv_omega

theorem hexval_lower {c : Byte} (h : 0x61 ≤ c.toNat ∧ c.toNat ≤ 0x66) :
    hexval c = some (BitVec.ofNat 8 (c.toNat - 0x61 + 10)) := by
  have hc : 0x61#8 ≤ c ∧ c ≤ 0x66#8 := h
  rw [hexval, if_neg (by bv_omega), if_pos hc]
  congr 1
  bv_omega

theorem hexval_upper {c : Byte} (h : 0x41 ≤ c.toNat ∧ c.toNat ≤ 0x46) :
    hexval c = some (BitVec.ofNat 8 (c.toNat - 0x41 + 10)) := by
  have hc : 0x41#8 ≤ c ∧ c ≤ 0x46#8 := h
  rw [hexval, if_neg (by bv_omega), if_neg (by bv_omega), if_pos hc]
  congr 1
  bv_omega

theorem hexval_eq_none {c : Byte} (hdecimal : ¬(0x30 ≤ c.toNat ∧ c.toNat ≤ 0x39))
    (hlower : ¬(0x61 ≤ c.toNat ∧ c.toNat ≤ 0x66)) (hupper : ¬(0x41 ≤ c.toNat ∧ c.toNat ≤ 0x46)) : hexval c = none := by
  rw [hexval, if_neg (by bv_omega), if_neg (by bv_omega), if_neg (by bv_omega)]

/-- Settles O12: the three ranges are disjoint, and outside them there is no value. -/
theorem hexvalOfEveryByte : Obligations.HexvalOfEveryByte := fun _ =>
  ⟨hexval_decimal, hexval_lower, hexval_upper, hexval_eq_none⟩

theorem hexchar_decimal {v : Nybble} (h : v.toNat < 10) : hexchar v = BitVec.ofNat 8 (0x30 + v.toNat) := by
  have hv : v < 10#4 := h
  rw [hexchar, if_pos hv]
  bv_omega

theorem hexchar_letter {v : Nybble} (h : 10 ≤ v.toNat) : hexchar v = BitVec.ofNat 8 (0x37 + v.toNat) := by
  have hv : ¬v < 10#4 := Nat.not_lt.2 h
  rw [hexchar, if_neg hv]
  bv_omega

/-- Settles O13: the two branches of `hexchar`. -/
theorem hexcharIsUpperCase : Obligations.HexcharIsUpperCase := ⟨fun _ => hexchar_decimal, fun _ => hexchar_letter⟩

/-! ### One position of a line (R64, R94, R95) -/

theorem convertChar_hex (n p : Nat) {c v : Byte} (h : hexval c = some v) : convertChar n p c = v := by
  rw [convertChar, h, Option.getD_some]

theorem convertChar_notHex (n p : Nat) {c : Byte} (h : hexval c = none) : convertChar n p c = Config.freeByte n p := by
  rw [convertChar, h, Option.getD_none]

theorem nyb_notHex (n : Nat) {text : List Byte} {p : Nat} {c : Byte} (h : text[p]? = some c) (hc : hexval c = none) :
    nyb n text p = Config.freeByte n p := by
  simp only [nyb, h, convertChar_notHex n p hc]

theorem nyb_beyond (n : Nat) {text : List Byte} {p : Nat} (h : text.length ≤ p) : nyb n text p = Config.freeByte n p := by
  simp only [nyb, List.getElem?_eq_none h]

/-- Settles O35: the pass converts exactly the positions from 1 to LEN - 1 (`convertLine_get`). -/
theorem conversionPass : Obligations.ConversionPass := by
  refine fun s p => ⟨fun houtside => ?_, fun v h1 hlen hv => ?_, fun h1 hlen hc => ?_⟩
  · exact (convertLine_get s p).trans (if_neg (by omega))
  · exact (convertLine_get s p).trans ((if_pos ⟨h1, hlen⟩).trans (convertChar_hex _ _ hv))
  · exact (convertLine_get s p).trans ((if_pos ⟨h1, hlen⟩).trans (convertChar_notHex _ _ hc))

/-! ### Operand assembly (R96, R98) -/

@[simp] theorem assembleId_zero (n : Nat) (text : List Byte) : assembleId n text 0 = 0#32 := rfl

/-- One more nybble is shifted in at the low end (R96). -/
theorem assembleId_succ (n : Nat) (text : List Byte) (count : Nat) :
    assembleId n text (count + 1) = assembleId n text count * 16#32 + (nyb n text (count + 1)).setWidth 32 := by
  rw [assembleId, List.range'_concat, List.foldl_append, Nat.one_mul, Nat.add_comm 1 count]
  rfl

theorem assembleId_succ_toNat (n : Nat) (text : List Byte) (count : Nat) :
    (assembleId n text (count + 1)).toNat =
      ((assembleId n text count).toNat * 16 + (nyb n text (count + 1)).toNat) % 2 ^ 32 := by
  rw [assembleId_succ]
  bv_omega

theorem assembleData_getElem (n : Nat) (text : List Byte) (base : Nat) {k : Nat} (hk : k < 8) :
    (assembleData n text base)[k]'hk = nyb n text (base + 2 * k) * 16#8 + nyb n text (base + 2 * k + 1) := by
  rw [assembleData, Vector.getElem_ofFn]

/-- Settles O16: byte arithmetic is arithmetic mod 256. -/
theorem payloadAssembly : Obligations.PayloadAssembly := by
  intro n text base k
  rw [Fin.getElem_fin, assembleData_getElem n text base k.isLt]
  bv_omega

/-- Settles O14: the recursion of `assembleId_succ_toNat` three times; three values below 16 cannot reach 2^32. -/
theorem standardIdentifierAssembly : Obligations.StandardIdentifierAssembly := by
  intro n op c2 c1 c0 i2 i1 i0 rest h2 h1 h0
  have hi2 := hexval_lt_sixteen h2
  have hi1 := hexval_lt_sixteen h1
  have hi0 := hexval_lt_sixteen h0
  have e2 : nyb n (op :: c2 :: c1 :: c0 :: rest) 1 = i2 := nyb_hex rfl h2
  have e1 : nyb n (op :: c2 :: c1 :: c0 :: rest) 2 = i1 := nyb_hex rfl h1
  have e0 : nyb n (op :: c2 :: c1 :: c0 :: rest) 3 = i0 := nyb_hex rfl h0
  simp only [assembleId_succ_toNat, assembleId_zero, e2, e1, e0, BitVec.toNat_ofNat, Nat.zero_mod]
  omega

/-- Settles O15: the decoder's four arms, the recursion of the identifier, and the three cases of a nybble read. -/
theorem frameLinesAreReadByPosition : Obligations.FrameLinesAreReadByPosition :=
  ⟨fun _ _ => ⟨rfl, rfl, rfl, rfl⟩,
    fun n text count => ⟨assembleId_zero n text, assembleId_succ_toNat n text count⟩,
    fun n _ _ => ⟨fun _ _ hp hv => nyb_hex hp hv, fun _ hp hc => nyb_notHex n hp hc, fun hp => nyb_beyond n hp⟩⟩

/-! ### What of a line the decoder looks at (R91, R95) -/

section
variable {n : Nat} {text text' : List Byte} (hnyb : ∀ p, nyb n text' (p + 1) = nyb n text (p + 1))
include hnyb

theorem assembleId_congr (count : Nat) : assembleId n text' count = assembleId n text count := by
  induction count with
  | zero => rfl
  | succ count ih => rw [assembleId_succ, assembleId_succ, ih, hnyb]

theorem assembleData_congr (base : Nat) : assembleData n text' (base + 1) = assembleData n text (base + 1) := by
  apply Vector.ext
  intro k hk
  rw [assembleData_getElem _ _ _ hk, assembleData_getElem _ _ _ hk, Nat.add_right_comm base, hnyb, hnyb]

/-- Two lines with one opcode byte and the same nybble reads after it decode alike. -/
theorem decode_congr (hop : opcodeByte n text' = opcodeByte n text) : decode n text' = decode n text := by
  have hdigit : nyb n text' 1 = nyb n text 1 := hnyb 0
  have hlen (ext : Bool) : nyb n text' (lengthPos ext) = nyb n text (lengthPos ext) := by
    rw [lengthPos, Nat.add_comm 1, hnyb]
  have hdata (ext : Bool) : assembleData n text' (dataPos ext) = assembleData n text (dataPos ext) := by
    rw [dataPos, Nat.add_comm 2]
    exact assembleData_congr hnyb _
  simp only [decode, hop, hdigit, hlen, hdata, assembleId_congr hnyb]

end

/-! ### Upper and lower case (R93) -/

theorem hexval_lowerHex : ∀ c : Byte, hexval (lowerHex c) = hexval c := by decide

/-- The nybble reads do not tell the two cases apart; a position the line does not supply is the same draw. -/
theorem nyb_map_lowerHex (n : Nat) (op : Byte) (text : List Byte) (p : Nat) :
    nyb n (op :: text.map lowerHex) (p + 1) = nyb n (op :: text) (p + 1) := by
  simp only [nyb, List.getElem?_cons_succ, List.getElem?_map]
  cases text[p]? with
  | none => rfl
  | some c => simp only [Option.map_some, convertChar, hexval_lowerHex]

/-- Settles O19: the opcode byte is left alone, and every nybble read after it is unchanged. -/
theorem hexDigitCaseDoesNotMatter : Obligations.HexDigitCaseDoesNotMatter := fun n op text =>
  decode_congr (nyb_map_lowerHex n op text) rfl

/-! ### The current line (R90, R202, R203) -/

/-- Settles O32: the step appends the byte taken (`step_appends`), and the environment's move leaves the line. -/
theorem currentLineGrowsByOneByte : Obligations.CurrentLineGrowsByOneByte := by
  intro b rest s t hp ho hi hb h
  obtain rfl : envStep (appendByte b (tookByte b rest s)) = t :=
    Host.Outcome.next.inj ((Memory.step_appends hp ho hi hb).symm.trans h)
  rw [Memory.lineBytes_envStep, Memory.lineBytes_appendByte, Memory.lineBytes_tookByte]

end Sys2Proof.Proofs.Encoding
end

section
/-! PROOFS. The statements of spec/40_controller_driver.md about the transmit ring (R129, R130, R131, R264): `queued` is a bounded
first-in first-out queue, one rule for each operation on the ring, and over a run the frames submitted and queued only grow at the
end. -/

namespace Sys2Proof.Proofs.Driver
open Sys2Proof Sys2Proof.Machine

/-! ### The ring as a queue (R28 to R31) -/

/-- The queued frames are read from Q, HEAD and TAIL alone. -/
theorem queued_congr {s t : State} (hq : t.q = s.q) (hhead : t.head = s.head) (htail : t.tail = s.tail) :
    queued t = queued s := by
  simp only [queued, occupancy, hq, hhead, htail]

/-- The slot `k` places after slot `i`. -/
theorem ringOffset_val (i : Fin Config.ringSlots) (k : Nat) :
    (i + Fin.ofNat Config.ringSlots k).val = (i.val + k) % 28 := by
  simp [Fin.val_add]

@[simp] theorem ringPush_head (f : Frame) (s : State) : (ringPush f s).head = ringNext s.head := rfl
@[simp] theorem ringPush_tail (f : Frame) (s : State) : (ringPush f s).tail = s.tail := rfl
@[simp] theorem ringPop_head (s : State) : (ringPop s).head = s.head := rfl
@[simp] theorem ringPop_tail (s : State) : (ringPop s).tail = ringNext s.tail := rfl

theorem occupancy_ringPush (f : Frame) {s : State} (h : ringFull s = false) :
    occupancy (ringPush f s) = occupancy s + 1 := by
  have hhead : s.head.val < 28 := s.head.isLt
  have htail : s.tail.val < 28 := s.tail.isLt
  rw [← Bool.not_eq_true, State.ringFull_iff] at h
  rw [State.occupancy_eq, State.occupancy_eq, ringPush_head, ringPush_tail, ringNext_val]
  omega

theorem occupancy_ringPop {s : State} (h : ringEmpty s = false) : occupancy s = occupancy (ringPop s) + 1 := by
  have hhead : s.head.val < 28 := s.head.isLt
  have htail : s.tail.val < 28 := s.tail.isLt
  rw [← Bool.not_eq_true, State.ringEmpty_iff, Fin.ext_iff] at h
  rw [State.occupancy_eq, State.occupancy_eq, ringPop_head, ringPop_tail, ringNext_val]
  omega

/-- HEAD stands as many slots after TAIL as frames are queued. -/
theorem tail_add_occupancy (s : State) : s.tail + Fin.ofNat Config.ringSlots (occupancy s) = s.head := by
  have hhead : s.head.val < 28 := s.head.isLt
  have htail : s.tail.val < 28 := s.tail.isLt
  rw [Fin.ext_iff, ringOffset_val, State.occupancy_eq]
  omega

/-- No queued frame stands in the slot HEAD, which the next enqueue writes. -/
theorem tail_add_ne_head {s : State} {k : Nat} (hk : k < occupancy s) :
    s.tail + Fin.ofNat Config.ringSlots k ≠ s.head := by
  have hhead : s.head.val < 28 := s.head.isLt
  have htail : s.tail.val < 28 := s.tail.isLt
  rw [State.occupancy_eq] at hk
  rw [Ne, Fin.ext_iff, ringOffset_val]
  omega

/-- An enqueue with a free slot puts its frame last (R129): the slots of the queued frames are not HEAD. -/
theorem queued_ringPush (f : Frame) {s : State} (h : ringFull s = false) : queued (ringPush f s) = queued s ++ [f] := by
  have hkept : ∀ k ∈ List.range (occupancy s),
      (s.q.set s.head f)[s.tail + Fin.ofNat Config.ringSlots k] = s.q[s.tail + Fin.ofNat Config.ringSlots k] := fun k hk =>
    Vector.getElem_set_ne _ _ fun e => tail_add_ne_head (List.mem_range.1 hk) (Fin.ext e.symm)
  have hnew : (s.q.set s.head f)[s.tail + Fin.ofNat Config.ringSlots (occupancy s)] = f := by
    rw [tail_add_occupancy]
    exact Vector.getElem_set_self _
  rw [queued, occupancy_ringPush f h, List.range_succ, List.map_append, queued, ringPush_eq]
  exact congrArg₂ (· ++ ·) (List.map_congr_left hkept) (congrArg (fun x => [x]) hnew)

/-- A dequeue takes the frame at TAIL, the oldest (R130). -/
theorem queued_ringPop {s : State} (h : ringEmpty s = false) : queued s = s.q[s.tail] :: queued (ringPop s) := by
  have hslot (k : Nat) : s.tail + Fin.ofNat Config.ringSlots (k + 1) = ringNext s.tail + Fin.ofNat Config.ringSlots k := by
    rw [Fin.ext_iff, ringOffset_val, ringOffset_val, ringNext_val]
    omega
  have hfirst : s.tail + Fin.ofNat Config.ringSlots 0 = s.tail := Fin.add_zero _
  rw [queued, occupancy_ringPop h, List.range_succ_eq_map, List.map_cons, List.map_map]
  simp only [hfirst, Function.comp_def, Nat.succ_eq_add_one, hslot]
  rfl

theorem ringEmpty_iff_queued (s : State) : ringEmpty s = true ↔ queued s = [] := by
  rw [State.ringEmpty_iff_occupancy, ← State.length_queued, List.length_eq_zero_iff]

theorem ringFull_iff_queued (s : State) : ringFull s = true ↔ (queued s).length = 27 := by
  rw [State.ringFull_iff_occupancy, State.length_queued]

theorem ringFull_of_queued_lt {s : State} (h : (queued s).length < 27) : ringFull s = false := by
  rw [← Bool.not_eq_true, ringFull_iff_queued]
  exact Nat.ne_of_lt h

/-! ### `transmit_enqueue` (R129) -/

theorem queued_transmitEnqueue (f : Frame) {s : State} (h : (queued s).length < 27) :
    queued (transmitEnqueue f s) = queued s ++ [f] := by
  rw [transmitEnqueue_room f (ringFull_of_queued_lt h), queued_ringPush f (ringFull_of_queued_lt h)]

theorem transmitEnqueue_qfullCnt (f : Frame) {s : State} (h : (queued s).length < 27) :
    (transmitEnqueue f s).qfullCnt = s.qfullCnt := by
  rw [transmitEnqueue_room f (ringFull_of_queued_lt h), ringPush_eq]

theorem transmitEnqueue_ctl (f : Frame) (s : State) : (transmitEnqueue f s).ctl = s.ctl := by
  cases h : ringFull s with
  | true => rw [transmitEnqueue_full f h, State.bumpQfull_ctl]
  | false => rw [transmitEnqueue_room f h, ringPush_eq]

/-- Settles O51: a free slot takes the frame last, and a full ring only counts. -/
theorem enqueueRefinesABoundedQueue : Obligations.EnqueueRefinesABoundedQueue := fun f s =>
  ⟨fun h => ⟨queued_transmitEnqueue f h, transmitEnqueue_qfullCnt f h⟩,
    fun h => transmitEnqueue_full f ((ringFull_iff_queued s).2 h)⟩

/-! ### `service_transmit` (R130, R131) -/

/-- With nothing queued or the mailbox busy, the ring is left and at most the question is recorded. -/
theorem serviceTransmit_idle {s : State} (h : queued s = [] ∨ s.ctl.txip = true) :
    queued (serviceTransmit s) = queued s ∧ submitted (serviceTransmit s).trace = submitted s.trace := by
  rcases serviceTransmit_cases s with ⟨_, e⟩ | ⟨_, _, e⟩ | ⟨hempty, ht, _⟩ | ⟨hempty, ht, _⟩
  · rw [e]; exact ⟨rfl, rfl⟩
  · rw [e]; exact ⟨rfl, (Memory.submitted_append ..).trans (List.append_nil _)⟩
  all_goals
    rw [← ringEmpty_iff_queued, hempty, ht] at h
    simp at h

/-- With a frame queued and the mailbox free, the oldest frame leaves the ring and is submitted once, accepted or not. -/
theorem serviceTransmit_takes {s : State} {f : Frame} {fs : List Frame} (hqueued : queued s = f :: fs)
    (hfree : s.ctl.txip = false) :
    queued (serviceTransmit s) = fs ∧ (serviceTransmit s).trace = s.trace ++ [.txip false, .submit f s.ctl.accepts] := by
  have hempty : ringEmpty s = false := by
    rw [← Bool.not_eq_true, ringEmpty_iff_queued, hqueued]
    exact List.cons_ne_nil f fs
  obtain ⟨rfl, rfl⟩ : s.q[s.tail] = f ∧ queued (ringPop s) = fs :=
    List.cons.inj ((queued_ringPop hempty).symm.trans hqueued)
  rcases serviceTransmit_cases s with ⟨he, _⟩ | ⟨_, ht, _⟩ | ⟨_, _, ha, e⟩ | ⟨_, _, ha, e⟩
  · rw [hempty] at he; cases he
  · rw [hfree] at ht; cases ht
  all_goals
    rw [e, ha]
    exact ⟨rfl, rfl⟩

/-- Settles O52 by the two rules of `service_transmit`. -/
theorem serviceTakesTheOldestFrame : Obligations.ServiceTakesTheOldestFrame := fun _ =>
  ⟨serviceTransmit_idle, fun _ _ => serviceTransmit_takes⟩

/-! ### Twenty-seven enqueues (R129, R262) -/

/-- The frames enqueued one after the other. -/
def enqueueAll (fs : List Frame) (s : State) : State := fs.foldl (fun u f => transmitEnqueue f u) s

theorem enqueueAll_ctl (fs : List Frame) (s : State) : (enqueueAll fs s).ctl = s.ctl := by
  induction fs generalizing s with
  | nil => rfl
  | cons f fs ih => exact (ih _).trans (transmitEnqueue_ctl f s)

/-- As long as the slots suffice, the frames are queued in order behind those already queued, and nothing is counted. -/
theorem enqueueAll_room (fs : List Frame) (s : State) (h : (queued s).length + fs.length ≤ 27) :
    queued (enqueueAll fs s) = queued s ++ fs ∧ (enqueueAll fs s).qfullCnt = s.qfullCnt := by
  induction fs generalizing s with
  | nil => exact ⟨(List.append_nil _).symm, rfl⟩
  | cons f fs ih =>
    rw [List.length_cons] at h
    have hroom : (queued s).length < 27 := by omega
    have hpushed := queued_transmitEnqueue f hroom
    have hrest : (queued (transmitEnqueue f s)).length + fs.length ≤ 27 := by
      rw [hpushed, List.length_append, List.length_singleton]
      omega
    obtain ⟨hqueued, hcount⟩ := ih (transmitEnqueue f s) hrest
    rw [hpushed, List.append_assoc, List.singleton_append] at hqueued
    exact ⟨hqueued, hcount.trans (transmitEnqueue_qfullCnt f hroom)⟩

/-- A frame lost on a full ring, one service with the mailbox free, and an enqueue: the oldest frame is replaced by a new last one. -/
theorem queued_after_service {s : State} {fs : List Frame} (f g : Frame) (hqueued : queued s = fs) (hfull : fs.length = 27)
    (hfree : s.ctl.txip = false) :
    queued (transmitEnqueue g (serviceTransmit (transmitEnqueue f s))) = fs.tail ++ [g] := by
  rw [transmitEnqueue_full f ((ringFull_iff_queued s).2 (hqueued ▸ hfull))]
  cases fs with
  | nil => cases hfull
  | cons oldest rest =>
    obtain ⟨hrest, _⟩ := serviceTransmit_takes (s := s.bumpQfull) hqueued hfree
    rw [List.length_cons] at hfull
    rw [queued_transmitEnqueue g (by rw [hrest]; omega), hrest, List.tail_cons]

/-- Settles O53: the frames enqueued from an empty ring, then the full ring, then the slot a service frees. -/
theorem ringHoldsTwentySevenFrames : Obligations.RingHoldsTwentySevenFrames := by
  intro s fs f g hempty hfree
  have hfilled (h : fs.length ≤ 27) : queued (enqueueAll fs s) = fs ∧ (enqueueAll fs s).qfullCnt = s.qfullCnt := by
    have hnone : queued s = [] := (ringEmpty_iff_queued s).1 hempty
    simpa [hnone] using enqueueAll_room fs s (by simpa [hnone] using h)
  refine ⟨hfilled, fun h => ?_⟩
  obtain ⟨hqueued, hcount⟩ := hfilled h.le
  have hlost : transmitEnqueue f (enqueueAll fs s) = (enqueueAll fs s).bumpQfull :=
    transmitEnqueue_full f ((ringFull_iff_queued _).2 (by rw [hqueued]; exact h))
  refine ⟨?_, ?_, queued_after_service f g hqueued h (enqueueAll_ctl fs s ▸ hfree)⟩
  · exact (congrArg queued hlost).trans hqueued
  · exact (congrArg State.qfullCnt hlost).trans (congrArg (· + 1) hcount)

/-! ### First in, first out over a run (R131, R264) -/

/-- The frames submitted so far and then those queued, oldest first: all the frames accepted so far, in order. -/
def frameFlow (s : State) : List Frame := submitted s.trace ++ queued s

/-- Transactions that submit nothing leave the flow, as long as the ring is left. -/
theorem frameFlow_append {s t : State} (evs : List PortEvent) (htrace : t.trace = s.trace ++ evs) (hevs : submitted evs = [])
    (hq : t.q = s.q) (hhead : t.head = s.head) (htail : t.tail = s.tail) : frameFlow t = frameFlow s := by
  rw [frameFlow, htrace, Memory.submitted_append, hevs, List.append_nil, queued_congr hq hhead htail, frameFlow]

theorem frameFlow_congr {s t : State} (htrace : t.trace = s.trace) (hq : t.q = s.q) (hhead : t.head = s.head)
    (htail : t.tail = s.tail) : frameFlow t = frameFlow s :=
  frameFlow_append [] (by rw [htrace, List.append_nil]) rfl hq hhead htail

theorem frameFlow_setStatus (st : Status) (s : State) : frameFlow (s.setStatus st) = frameFlow s :=
  frameFlow_congr rfl rfl rfl rfl

theorem frameFlow_setLen (n : Fin (Config.lineCap + 1)) (s : State) : frameFlow (s.setLen n) = frameFlow s :=
  frameFlow_congr rfl rfl rfl rfl

theorem frameFlow_envStep (s : State) : frameFlow (envStep s) = frameFlow s :=
  frameFlow_congr (envStep_trace s) (envStep_q s) (envStep_head s) (envStep_tail s)

theorem frameFlow_tookByte (b : Byte) (rest : List Byte) (s : State) : frameFlow (tookByte b rest s) = frameFlow s :=
  frameFlow_append [.inAvail true, .inPop b] rfl rfl rfl rfl rfl

theorem frameFlow_beginDecode (s : State) : frameFlow (beginDecode s) = frameFlow s :=
  frameFlow_congr (beginDecode_trace s) (beginDecode_q s) (beginDecode_head s) (beginDecode_tail s)

theorem frameFlow_enableBegin (s : State) : frameFlow (enableBegin s) = frameFlow s := by
  rw [enableBegin_eq]
  exact frameFlow_append [.applyTiming _, .resetConfigureUnfreeze _] rfl rfl rfl rfl rfl

theorem frameFlow_enableFinish (s : State) : frameFlow (enableFinish s) = frameFlow s := by
  rw [enableFinish_eq]
  exact frameFlow_append [.armFilter, .busUp] rfl rfl rfl rfl rfl

/-- Closing the bus does not flush the ring (R124, D22). -/
theorem frameFlow_disable {s : State} (h : s.bus = .onBus) : frameFlow (disable s) = frameFlow s := by
  rw [disable_onBus h]
  exact frameFlow_append [.mask, .busDown] rfl rfl rfl rfl rfl

/-- The service moves one frame from the front of the queue to the end of the submitted frames, or nothing. -/
theorem frameFlow_serviceTransmit (s : State) : frameFlow (serviceTransmit s) = frameFlow s := by
  rw [frameFlow, frameFlow]
  by_cases hidle : queued s = [] ∨ s.ctl.txip = true
  · obtain ⟨hqueued, hsubmitted⟩ := serviceTransmit_idle hidle
    rw [hqueued, hsubmitted]
  · obtain ⟨hsome, hfree⟩ := not_or.1 hidle
    obtain ⟨f, fs, hqueued⟩ := List.exists_cons_of_ne_nil hsome
    obtain ⟨hrest, htrace⟩ := serviceTransmit_takes hqueued (Bool.not_eq_true _ ▸ hfree)
    rw [hrest, htrace, hqueued, Memory.submitted_append]
    exact List.append_assoc _ [f] fs

/-- From `s` to `t` at most `n` frames have been accepted, and the flow has grown by them at its end only. -/
def AcceptsAtMost (n : Nat) (s t : State) : Prop :=
  ∃ accepted : List Frame, frameFlow t = frameFlow s ++ accepted ∧ accepted.length ≤ n

theorem AcceptsAtMost.of_eq {s t : State} (n : Nat) (h : frameFlow t = frameFlow s) : AcceptsAtMost n s t :=
  ⟨[], by rw [h, List.append_nil], Nat.zero_le n⟩

theorem AcceptsAtMost.trans {m n : Nat} {s t u : State} (hst : AcceptsAtMost m s t) (htu : AcceptsAtMost n t u) :
    AcceptsAtMost (m + n) s u := by
  obtain ⟨first, hfirst, hm⟩ := hst
  obtain ⟨second, hsecond, hn⟩ := htu
  refine ⟨first ++ second, by rw [hsecond, hfirst, List.append_assoc], ?_⟩
  rw [List.length_append]
  exact Nat.add_le_add hm hn

/-- A command accepts one frame at most: a frame command with a free slot. -/
theorem execCase_acceptsAtMost {s t : State} {i : Instr} (h : ExecCase s i t) : AcceptsAtMost 1 s t := by
  cases h with
  | status | rate | lom | art | still | full => exact .of_eq 1 (frameFlow_congr rfl rfl rfl rfl)
  | opened => exact .of_eq 1 (by rw [frameFlow_setStatus, frameFlow_enableFinish, frameFlow_enableBegin])
  | waits => exact .of_eq 1 (frameFlow_enableBegin s)
  | closed hb => exact .of_eq 1 (by rw [frameFlow_setStatus, frameFlow_disable hb])
  | enqueued _ f hroom =>
    have hpush : frameFlow (ringPush f s) = frameFlow s ++ [f] := by
      rw [frameFlow, queued_ringPush f hroom, ← List.append_assoc]
      rfl
    exact ⟨[f], by rw [frameFlow_setStatus, hpush], le_rfl⟩

/-- A step of the sequencer accepts one frame at most: only the terminator of a command's line can. -/
theorem seqCase_acceptsAtMost {s t : State} (h : SeqCase s t) : AcceptsAtMost 1 s t := by
  have hdecoded (rest : List Byte) : frameFlow (beginDecode (tookByte Config.term rest s)) = frameFlow s := by
    rw [frameFlow_beginDecode, frameFlow_tookByte]
  cases h with
  | commands rest i u _ _ _ _ hu =>
    obtain ⟨accepted, hflow, hone⟩ := execCase_acceptsAtMost hu
    exact ⟨accepted, by rw [resetLine, frameFlow_setLen, hflow, hdecoded], hone⟩
  | waits | led | receivesOff => exact .of_eq 1 (frameFlow_congr rfl rfl rfl rfl)
  | finishes => exact .of_eq 1 (by rw [frameFlow_setLen, frameFlow_setStatus, frameFlow_enableFinish])
  | endsInput => exact .of_eq 1 (frameFlow_append [.inAvail false] rfl rfl rfl rfl rfl)
  | appends b rest =>
    obtain ⟨l, n, happ⟩ := State.appendByte_writes b (tookByte b rest s)
    have hflow : frameFlow (appendByte b (tookByte b rest s)) = frameFlow (tookByte b rest s) := by
      rw [happ]
      exact frameFlow_congr rfl rfl rfl rfl
    exact .of_eq 1 (by rw [hflow, frameFlow_tookByte])
  | rejects rest => exact .of_eq 1 (by rw [frameFlow_setLen, frameFlow_setStatus, hdecoded])
  | transmits =>
    have hflow : frameFlow ((serviceTransmit s).setPh .p4RxSvc) = frameFlow (serviceTransmit s) :=
      frameFlow_congr rfl rfl rfl rfl
    exact .of_eq 1 (by rw [hflow, frameFlow_serviceTransmit])
  | receivesNone => exact .of_eq 1 (frameFlow_append [.fav false] rfl rfl rfl rfl rfl)
  | receives => exact .of_eq 1 (frameFlow_append [.fav true, .rxRead _, .rxClear, .outWrite _] rfl rfl rfl rfl rfl)

theorem step_acceptsAtMost {s t : State} (h : step s = .next t) : AcceptsAtMost 1 s t := by
  obtain ⟨u, hu, rfl⟩ := step_next_inv h
  exact (seqCase_acceptsAtMost hu).trans (.of_eq 0 (frameFlow_envStep u))

/-- A run of one more step that answers next: its first step, and the rest of the run. -/
theorem run_succ_next_inv {k : Nat} {s t : State} (h : run (k + 1) s = .next t) :
    ∃ u, step s = .next u ∧ run k u = .next t := by
  rw [run_succ] at h
  cases hstep : step s with
  | next u => exact ⟨u, rfl, by rwa [hstep] at h⟩
  | fault r => rw [hstep] at h; cases h
  | refused r => rw [hstep] at h; cases h

theorem run_acceptsAtMost (k : Nat) {s t : State} (h : run k s = .next t) : AcceptsAtMost k s t := by
  induction k generalizing s with
  | zero => cases h; exact .of_eq 0 rfl
  | succ k ih =>
    obtain ⟨u, hfirst, hrest⟩ := run_succ_next_inv h
    rw [Nat.add_comm]
    exact (step_acceptsAtMost hfirst).trans (ih hrest)

/-- Settles O54, by induction on the run: a step lets the flow grow by one frame at its end at most, since the service only moves
the oldest queued frame over to the submitted ones. -/
theorem framesLeaveInArrivalOrder : Obligations.FramesLeaveInArrivalOrder := fun k _ _ h => run_acceptsAtMost k h

end Sys2Proof.Proofs.Driver
end

section
/-! PROOFS. The statements of spec/40_controller_driver.md about the bus state machine, the setters and the spurious drain (R121 to
R126, R134, R135): which commands and steps change BUS, and what the wait of `enable()` does (R123; log 4). -/

namespace Sys2Proof.Proofs.Driver
open Sys2Proof Sys2Proof.Machine

/-! ### Single operations -/

theorem enableBegin_ready (s : State) : (enableBegin s).ctl.ready = s.ctl.ready := by rw [enableBegin_eq]

/-- Settles O2: `enable()` runs up to its wait and stays there, and an `O` that waits returns no status. -/
theorem openWaitsForTheController : Obligations.OpenWaitsForTheController := by
  intro s hb hr
  have hwaits : openReturn (enable s) = enableBegin s := by
    rw [enable_offBus hb, enableWait_notReady ((enableBegin_ready s).trans hr), openReturn, if_pos (by rw [enableBegin_eq])]
  rw [← enableBegin_eq, ← hwaits]
  rfl

/-- Settles O25: the setter is gated by BUS, and `rateOf` is the table written out. -/
theorem setBitrateTableAndFallback : Obligations.SetBitrateTableAndFallback := by
  refine ⟨fun sel _ hb => setBitrate_onBus sel hb, fun sel s hb => ?_⟩
  rw [setBitrate_offBus sel hb, rateOf_eq, State.setRate]

/-- Settles O30: the frame read is the draw of this drain. -/
theorem spuriousDrainReadsSomeFrame : Obligations.SpuriousDrainReadsSomeFrame := fun s h =>
  ⟨Config.freeFrame s.draws, receiveDrain_spurious h⟩

/-! ### What changes BUS (R135, R234) -/

/-- A command that changes BUS is an `O` on a closed bus or a `C` on an open one. -/
theorem execCase_bus {s t : State} {i : Instr} (h : ExecCase s i t) (hne : t.bus ≠ s.bus) :
    (s.bus = .offBus ∧ i = .openBus) ∨ (s.bus = .onBus ∧ i = .closeBus) := by
  cases h with
  | status | rate | lom | art | still | enqueued | full => exact absurd rfl hne
  | opened hb => exact .inl ⟨hb, rfl⟩
  | waits => exact absurd (by rw [enableBegin_eq]) hne
  | closed hb => exact .inr ⟨hb, rfl⟩

theorem serviceTransmit_bus (s : State) : (serviceTransmit s).bus = s.bus := by
  rcases serviceTransmit_cases s with ⟨_, e⟩ | ⟨_, _, e⟩ | ⟨_, _, _, e⟩ | ⟨_, _, _, e⟩ <;> rw [e]

/-- The end of `enable()` that changes BUS opened it. -/
theorem enableFinish_bus {s : State} (hne : (enableFinish s).bus ≠ s.bus) :
    s.bus = .offBus ∧ (enableFinish s).bus = .onBus := by
  rw [enableFinish_eq] at hne ⊢
  cases hb : s.bus with
  | offBus => exact ⟨rfl, rfl⟩
  | onBus => exact absurd hb.symm hne

/-- A step of the sequencer that changes BUS runs an `O` or a `C`, or finishes the wait of an `O`. -/
theorem seqCase_bus {s t : State} (h : SeqCase s t) (hne : t.bus ≠ s.bus) : s.ph = .p1Input ∧
    ((s.opening = false ∧ ∃ rest i, s.inbound = Config.term :: rest ∧ decode s.draws (lineBytes s) = .ok i ∧
        ((s.bus = .offBus ∧ i = .openBus) ∨ (s.bus = .onBus ∧ i = .closeBus))) ∨
      (s.opening = true ∧ s.ctl.ready = true ∧ s.bus = .offBus ∧ t.bus = .onBus)) := by
  have hdecoded (rest : List Byte) : (beginDecode (tookByte Config.term rest s)).bus = s.bus := by
    rw [beginDecode_bus, tookByte]
  cases h with
  | waits | endsInput | led | receivesOff | receivesNone | receives => exact absurd rfl hne
  | finishes hp ho hr => exact ⟨hp, .inr ⟨ho, hr, enableFinish_bus hne⟩⟩
  | appends b rest =>
    obtain ⟨l, n, happ⟩ := State.appendByte_writes b (tookByte b rest s)
    exact absurd (by rw [happ]; rfl) hne
  | commands rest i u hp ho hi hd hu =>
    have hcommand := execCase_bus hu (by rw [hdecoded]; exact hne)
    rw [hdecoded] at hcommand
    exact ⟨hp, .inl ⟨ho, rest, i, hi, hd, hcommand⟩⟩
  | rejects rest => exact absurd (by rw [State.setLen_bus, State.setStatus_bus, hdecoded]) hne
  | transmits => exact absurd (serviceTransmit_bus s) hne

/-- Settles O46: the cases of a command and of the sequencer's step; the environment does not write BUS. -/
theorem onlyOpenAndCloseChangeTheBus : Obligations.OnlyOpenAndCloseChangeTheBus := by
  refine ⟨fun i s t h => execCase_bus (exec_next_inv h), fun s t h hne => ?_⟩
  obtain ⟨u, hu, rfl⟩ := step_next_inv h
  rw [envStep_bus] at hne ⊢
  exact seqCase_bus hu hne

/-! ### The wait of `enable()` (R123, R261) -/

theorem sequencerStep_notReady {s : State} (hp : s.ph = .p1Input) (ho : s.opening = true) (hr : s.ctl.ready = false) :
    sequencerStep s = .next s := by
  have hlen : s.setLen s.len = s := rfl
  simp only [sequencerStep, hp, State.stepInput_waiting ho, enableWait_notReady hr, openReturn, resetLine, ho, if_true, hlen]

theorem sequencerStep_ready {s : State} (hp : s.ph = .p1Input) (ho : s.opening = true) (hr : s.ctl.ready = true) :
    sequencerStep s = .next ((returnOk (enableFinish s)).setLen 0) := by
  have hreturns : resetLine (openReturn (enableFinish s)) = (returnOk (enableFinish s)).setLen 0 := by
    rw [enableFinish_eq]
    rfl
  simp only [sequencerStep, hp, State.stepInput_waiting ho, enableWait_ready hr, hreturns]

/-- Settles O37: one look at the ready bit, and then either nothing or the rest of `enable()` and of the `O` around it. -/
theorem waitingStep : Obligations.WaitingStep := by
  intro s hp ho
  refine ⟨fun hr => stepsThrough_iff.2 (sequencerStep_notReady hp ho hr), fun hr => stepsThrough_iff.2 ?_⟩
  rw [sequencerStep_ready hp ho hr, enableFinish_eq]
  rfl

/-- A scheduled move while the tick is masked replaces the controller and brings bytes, and nothing more (R230; log 2). -/
theorem envStep_masked {s : State} {m : EnvMove} {ms : List EnvMove} (him : s.im = true) (hs : s.schedule = m :: ms) :
    envStep s = { s with ctl := m.ctl, inbound := s.inbound ++ m.bytes, schedule := ms } := by
  rw [envStep_eq, envNext, hs, him]
  rfl

/-- A run inside the wait, as long as every move keeps the controller not ready: only the environment's fields change. -/
theorem run_waiting (k : Nat) {s : State} (hp : s.ph = .p1Input) (ho : s.opening = true) (him : s.im = true)
    (hr : s.ctl.ready = false) (hnever : ∀ m ∈ s.schedule, m.ctl.ready = false) (hk : k ≤ s.schedule.length) :
    ∃ c bytes ms, run k s = .next { s with ctl := c, inbound := s.inbound ++ bytes, schedule := ms } := by
  induction k generalizing s with
  | zero => exact ⟨s.ctl, [], s.schedule, by rw [run_zero, List.append_nil]⟩
  | succ k ih =>
    obtain ⟨m, ms, hs⟩ := List.exists_cons_of_length_pos (Nat.zero_lt_of_lt hk)
    rw [hs, List.forall_mem_cons] at hnever
    obtain ⟨hm, hms⟩ := hnever
    have hstep := Memory.step_of_sequencerStep (sequencerStep_notReady hp ho hr)
    rw [envStep_masked him hs] at hstep
    rw [hs, List.length_cons] at hk
    obtain ⟨c, bytes, rest, hrun⟩ := ih (s := { s with ctl := m.ctl, inbound := s.inbound ++ m.bytes, schedule := ms })
      hp ho him hm hms (Nat.le_of_succ_le_succ hk)
    exact ⟨c, m.bytes ++ bytes, rest, by rw [run_succ_of_next k hstep, hrun, List.append_assoc]⟩

/-- Settles O38: such a run writes the controller's record, the inbound stream's end and the schedule only. -/
theorem neverReadyHangs : Obligations.NeverReadyHangs := by
  intro s k hp ho him hr hnever hk
  obtain ⟨c, bytes, ms, hrun⟩ := run_waiting k hp ho him hr hnever hk
  exact ⟨_, hrun, hp, ho, rfl, rfl, rfl, rfl, rfl, rfl, rfl, rfl, List.prefix_append _ _⟩

end Sys2Proof.Proofs.Driver
end

section
/-! PROOFS. The statements of spec/41_codec_decode.md about the dispatch of a line (R150, R165, R166), the control commands (R152 to
R159) and the frame commands (R160 to R164), and what no command touches (R211, R226). A command's meaning is cited as the equation
of its arm of `exec` and the rule of the operation it calls, in the bus state at hand. -/

namespace Sys2Proof.Proofs.Codec
open Sys2Proof Sys2Proof.Machine

/-! ### What no command touches (R150, R211, R226) -/

/-- `enable()` once the controller is ready, as one record update: its two halves one after the other (R121, R122). -/
theorem enableFinish_enableBegin (s : State) :
    enableFinish (enableBegin s) = { s with
      bus := .onBus
      opening := false
      ctl := { s.ctl with
        timing := Config.timing s.rate, listenOnly := s.lom, frozen := false, masked := false, filterArmed := true }
      trace := s.trace ++ [.applyTiming (Config.timing s.rate), .resetConfigureUnfreeze s.lom, .armFilter, .busUp] } := by
  rw [enableFinish_eq, enableBegin_eq, List.append_assoc]
  rfl

/-- The fields that no command writes, whatever its outcome. -/
def untouched (s : State) :=
  (s.outbound, s.inbound, s.ph, s.im, s.line, s.len, s.rxf, s.tail, s.txfailCnt, s.tick, s.schedule, s.envSteps)

theorem execCase_untouched {s t : State} {i : Instr} (h : ExecCase s i t) : untouched t = untouched s := by
  cases h with
  | status | rate | lom | art | still | enqueued | full => rfl
  | opened => rw [enableFinish_enableBegin]; rfl
  | waits => rw [enableBegin_eq]; rfl
  | closed hb => rw [disable_onBus hb]; rfl

/-- Commands record their transactions behind the earlier ones. -/
theorem execCase_trace {s t : State} {i : Instr} (h : ExecCase s i t) : s.trace <+: t.trace := by
  cases h with
  | status | rate | lom | art | still | enqueued | full => exact List.prefix_rfl
  | opened => rw [enableFinish_enableBegin]; exact List.prefix_append _ _
  | waits => rw [enableBegin_eq]; exact List.prefix_append _ _
  | closed hb => rw [disable_onBus hb]; exact List.prefix_append _ _

/-- Settles O47, by the cases of a command: `O` and `C` write BUS, the wait, the controller and the record, a setter its register, a
frame command the ring's head end or QFULL_CNT and the draws, and each that returns the status. -/
theorem commandsFrame : Obligations.CommandsFrame := by
  intro i s t h
  have hcase := exec_next_inv h
  have hkept := execCase_untouched hcase
  simp only [untouched, Prod.mk.injEq] at hkept
  obtain ⟨hout, hin, hph, him, hline, hlen, hrxf, htail, htxfail, htick, hschedule, hmoves⟩ := hkept
  exact ⟨hout, hin, hph, him, hline, hlen, hrxf, htail, htxfail, htick, hschedule, hmoves, execCase_trace hcase⟩

/-! ### `O` and `C` (R152, R153) -/

theorem exec_openBus (s : State) : exec .openBus s = .next (openReturn (enable s)) := rfl

theorem exec_closeBus (s : State) : exec .closeBus s = .next (returnOk (disable s)) := rfl

/-- Outside a wait, `O` returns OK. -/
theorem openReturn_returned {s : State} (h : s.opening = false) : openReturn s = returnOk s := by
  rw [openReturn, h]
  rfl

/-- Settles O1: `enable()` does not stop at its wait, and the `O` around it returns. -/
theorem openRunsTheEnableSequence : Obligations.OpenRunsTheEnableSequence := by
  intro s hb hr
  rw [exec_openBus, enable_offBus hb, enableWait_ready ((Driver.enableBegin_ready s).trans hr), enableFinish_enableBegin,
    openReturn_returned rfl]
  rfl

/-- Settles O3: `enable()` is a no-op on an open bus. -/
theorem openWhileOpenIsNoOp : Obligations.OpenWhileOpenIsNoOp := by
  intro s hb ho
  rw [exec_openBus, enable_onBus hb, openReturn_returned ho]
  rfl

/-- Settles O4: the decoder's arm, and the two bus states of `disable()`. -/
theorem closeMasksAndKeepsTheRing : Obligations.CloseMasksAndKeepsTheRing := by
  refine ⟨fun _ _ => rfl, fun s hb => ?_, fun s hb => ?_⟩
  · rw [exec_closeBus, disable_onBus hb]
    rfl
  · rw [exec_closeBus, disable_offBus hb]
    rfl

/-! ### The setters (R154 to R158) and `V` (R159) -/

theorem exec_setBitrate_legal {d : Byte} (s : State) (h : d.toNat < 9) :
    exec (.setBitrate d) s = .next (returnOk (setBitrate d.toNat s)) :=
  congrArg Host.Outcome.next (if_pos ((selectorLegal_iff d).2 h))

theorem exec_setBitrate_illegal {d : Byte} (s : State) (h : 9 ≤ d.toNat) : exec (.setBitrate d) s = .next (returnFail s) :=
  congrArg Host.Outcome.next (if_neg (by rw [selectorLegal_iff]; omega))

/-- The rate of a legal selector is its entry of the table, written out (R126; D4, log 8). -/
theorem rateOf_legal {sel : Nat} (h : sel < 9) : rateOf sel =
    (#v[10000#20, 20000#20, 50000#20, 100000#20, 125000#20, 250000#20, 500000#20, 750000#20, 1000000#20] :
      Vector Rate 9)[sel] := by
  rw [rateOf_eq, List.getD_eq_getElem _ _ h]
  rfl

/-- Settles O5: the digit's check comes first (`exec_setBitrate_illegal`), then the setter looks at BUS. -/
theorem setBitrateChecksThenSets : Obligations.SetBitrateChecksThenSets := by
  refine ⟨fun _ _ => rfl, fun d s h => exec_setBitrate_illegal s h, fun d s h hb => ?_, fun d s h hb => ?_⟩
  · rw [exec_setBitrate_legal s h, setBitrate_offBus _ hb, rateOf_legal h]
    rfl
  · rw [exec_setBitrate_legal s h, setBitrate_onBus _ hb]
    rfl

theorem exec_setModeLower (d : Byte) (s : State) :
    exec (.setModeLower d) s = .next (returnOk (setListenOnly (digitIsOne d) s)) := rfl

/-- `M` is another spelling of `m` (R156). -/
theorem exec_setModeUpper (d : Byte) (s : State) : exec (.setModeUpper d) s = exec (.setModeLower d) s := rfl

/-- Settles O6: the two spellings have one meaning, a setter in its two bus states. -/
theorem setModeWritesListenOnly : Obligations.SetModeWritesListenOnly := by
  refine ⟨fun _ _ => rfl, fun _ _ => rfl, fun d s hb => ?_, fun d s hb => ?_⟩
  · rw [exec_setModeUpper, and_self_iff, exec_setModeLower, setListenOnly_offBus _ hb]
    rfl
  · rw [exec_setModeUpper, and_self_iff, exec_setModeLower, setListenOnly_onBus _ hb]
    rfl

theorem exec_setAutoLower (d : Byte) (s : State) :
    exec (.setAutoLower d) s = .next (returnOk (setAutoretransmit (digitIsOne d) s)) := rfl

/-- `A` is another spelling of `a` (R158). -/
theorem exec_setAutoUpper (d : Byte) (s : State) : exec (.setAutoUpper d) s = exec (.setAutoLower d) s := rfl

/-- Settles O7: the two spellings have one meaning, a setter in its two bus states. -/
theorem setAutoretransmitWritesOnlyArt : Obligations.SetAutoretransmitWritesOnlyArt := by
  refine ⟨fun _ _ => rfl, fun _ _ => rfl, fun d s hb => ?_, fun d s hb => ?_⟩
  · rw [exec_setAutoUpper, and_self_iff, exec_setAutoLower, setAutoretransmit_offBus _ hb]
    rfl
  · rw [exec_setAutoUpper, and_self_iff, exec_setAutoLower, setAutoretransmit_onBus _ hb]
    rfl

/-- Settles O8: the decoder's arm, and the arm of `exec`, which calls no operation. -/
theorem versionOnlyReturnsOk : Obligations.VersionOnlyReturnsOk := ⟨fun _ _ => rfl, fun _ => rfl⟩

/-! ### The frame commands (R160 to R164) -/

theorem ringNext_eq (i : Fin Config.ringSlots) : ringNext i = Fin.ofNat 28 (i.val + 1) := Fin.ext (ringNext_val i)

/-- A frame command of legal length with a free slot, whichever of the four it is. -/
theorem exec_frameCommand_room {len8 : Byte} {s : State} (ext rtr : Bool) (id : BitVec 32) (data : Vector Byte 8)
    (hlen : len8.toNat ≤ 8) (hroom : (s.head.val + 1) % 28 ≠ s.tail.val) :
    exec (frameCommand ext rtr id len8 data) s = .next { s with
      q := s.q.set s.head ⟨ext, rtr, id, len8.setWidth 4, data⟩
      head := Fin.ofNat 28 (s.head.val + 1)
      decStatus := .ok } := by
  have hfull : ringFull s = false := by rwa [← Bool.not_eq_true, State.ringFull_iff]
  rw [Memory.exec_frameCommand, Memory.parseFrame_room ext rtr id data hlen hfull, ringPush_eq, ringNext_eq]
  rfl

/-- Settles O9: the four are one command of four frame kinds. -/
theorem frameCommandsEnqueue : Obligations.FrameCommandsEnqueue := fun id _ data _ hlen hroom =>
  ⟨exec_frameCommand_room false false id data hlen hroom, exec_frameCommand_room true false id data hlen hroom,
    exec_frameCommand_room false true id data hlen hroom, exec_frameCommand_room true true id data hlen hroom⟩

/-- A frame command with a length above 8 is a parse failure before the ring is looked at (R164, R228). -/
theorem exec_frameCommand_long {len8 : Byte} (s : State) (ext rtr : Bool) (id : BitVec 32) (data : Vector Byte 8)
    (hlen : 8 < len8.toNat) : exec (frameCommand ext rtr id len8 data) s = .next { s with decStatus := .fail } := by
  rw [Memory.exec_frameCommand, parseFrame, if_neg (by rw [lengthLegal_iff]; omega), raise_parseError, State.setStatus]

/-- Settles O10: the four are one command of four frame kinds. -/
theorem frameCommandsRejectLongLengths : Obligations.FrameCommandsRejectLongLengths := fun id _ data s hlen =>
  ⟨exec_frameCommand_long s false false id data hlen, exec_frameCommand_long s true false id data hlen,
    exec_frameCommand_long s false true id data hlen, exec_frameCommand_long s true true id data hlen⟩

/-! ### The dispatch on the opcode byte (R101, R105, R165, R166) -/

/-- A line is a command exactly when its opcode byte is one of the twelve; otherwise it is rejected by that byte. -/
theorem decode_cases (n : Nat) (text : List Byte) :
    (opcodeByte n text ∈ opcodes ∧ ∃ i, decode n text = .ok i) ∨
    (opcodeByte n text ∉ opcodes ∧ decode n text = .error (.unknownOpcode (opcodeByte n text))) := by
  unfold decode
  split
  case h_13 => exact .inr ⟨by simp_all [opcodes], rfl⟩
  all_goals rename_i hop; exact .inl ⟨by rw [hop]; decide, _, rfl⟩

theorem decode_known {n : Nat} {text : List Byte} (h : opcodeByte n text ∈ opcodes) : ∃ i, decode n text = .ok i :=
  (decode_cases n text).elim And.right fun ⟨hnone, _⟩ => absurd h hnone

theorem decode_unknown {n : Nat} {text : List Byte} (h : opcodeByte n text ∉ opcodes) :
    decode n text = .error (.unknownOpcode (opcodeByte n text)) :=
  (decode_cases n text).elim (fun ⟨hknown, _⟩ => absurd hknown h) And.right

/-- Settles O17: the decoder has an arm for each of the twelve bytes, and one for all the others. -/
theorem decoderRejectsExactlyUnknownOpcodes : Obligations.DecoderRejectsExactlyUnknownOpcodes := fun _ _ =>
  ⟨decode_unknown, decode_known⟩

/-! ### The terminator's step (R150, R165, R201, R202) -/

/-- In P1 outside a wait, a terminator dispatches the line once its byte is popped. -/
theorem sequencerStep_terminator {s : State} {rest : List Byte} (hp : s.ph = .p1Input) (ho : s.opening = false)
    (hi : s.inbound = Config.term :: rest) : sequencerStep s = dispatchLine (tookByte Config.term rest s) := by
  rw [sequencerStep, hp]
  simp only [stepInput_taken ho hi, accumulate, if_true]

/-- The conversion pass writes LINE only (R95). -/
theorem convertLine_eq (s : State) : convertLine s = s.setLine (convertLine s).line := by
  rw [convertLine, State.setLine_line]

/-- The conversion pass, once a terminator is taken: LINE is that of the state before, converted (log 3, log 29). -/
theorem beginDecode_tookByte (b : Byte) (rest : List Byte) (s : State) :
    beginDecode (tookByte b rest s) = { s with
      im := true
      inbound := rest
      line := (convertLine s).line
      draws := s.draws + 1
      trace := s.trace ++ [.inAvail true, .inPop b] } := by
  have hline : (convertLine (tookByte b rest s)).line = (convertLine s).line := by
    apply Vector.ext
    intro p hp
    exact (convertLine_get (tookByte b rest s) ⟨p, hp⟩).trans (convertLine_get s ⟨p, hp⟩).symm
  rw [Memory.beginDecode_eq, hline]
  generalize (convertLine s).line = l
  rfl

theorem dispatchLine_command {s : State} {i : Instr} (h : decodeLine s = .ok i) :
    dispatchLine s = thenResetLine (exec i (beginDecode s)) := by
  simp only [dispatchLine, h]

theorem dispatchLine_reject {s : State} {r : Reject} (h : decodeLine s = .error r) :
    dispatchLine s = .next (resetLine (returnFail (beginDecode s))) := by
  simp only [dispatchLine, h]
  rfl

/-- Settles O33: the line dispatched is the current one, and the dispatch runs its command. -/
theorem stepRunsTheDecodedCommand : Obligations.StepRunsTheDecodedCommand := by
  intro i rest s hp ho hi hd
  have hline : decodeLine (tookByte Config.term rest s) = .ok i := hd
  rw [step, sequencerStep_terminator hp ho hi, dispatchLine_command hline, beginDecode_tookByte,
    convertLine_eq s]
  generalize (convertLine s).line = l
  rfl

/-- After a dispatch outside a wait, LEN is 0 (R202). -/
theorem resetLine_returned {s : State} (h : s.opening = false) : resetLine s = s.setLen 0 := by
  rw [resetLine, h]
  rfl

/-- Settles O34: the decoder rejects the line (`decode_unknown`), and the dispatch then only fails. -/
theorem unknownOpcodeOnlyFails : Obligations.UnknownOpcodeOnlyFails := by
  intro rest s hp ho hi hop
  have hline : decodeLine (tookByte Config.term rest s) = .error (.unknownOpcode (opcodeByte s.draws (lineBytes s))) :=
    decode_unknown hop
  have hreturned : (returnFail (beginDecode (tookByte Config.term rest s))).opening = false :=
    (beginDecode_opening (tookByte Config.term rest s)).trans ho
  rw [stepsThrough_iff, sequencerStep_terminator hp ho hi, dispatchLine_reject hline, resetLine_returned hreturned,
    beginDecode_tookByte]
  generalize (convertLine s).line = l
  rfl

end Sys2Proof.Proofs.Codec
end

section
/-! PROOFS. The statements of spec/42_codec_encode.md: the outbound line of a frame (R190 to R197), and that encoder and decoder are
inverse to each other in both directions (R198). A frame is the frame of some frame command, and its outbound line is that command's
own line, which decodes to the command; conversely, the operands read from an upper-case line are spelled as that line. -/

namespace Sys2Proof.Proofs.Encoder
open Sys2Proof Sys2Proof.Machine

/-! ### The outbound line (R190 to R196) -/

theorem encodeFrame_legal {f : Frame} (h : f.len.toNat ≤ 8) :
    encodeFrame f = .ok (outboundLine f, (outboundLine f).length) :=
  if_pos ((frameLenOk_iff f).2 h)

theorem encodeFrame_long {f : Frame} (h : 8 < f.len.toNat) : encodeFrame f = .error .receivedLengthAbove8 :=
  if_neg (by rw [frameLenOk_iff]; omega)

/-- 1 + 3 + 1 + 16 + 1 characters, or 1 + 8 + 1 + 16 + 1 (R195). -/
theorem length_outboundLine (f : Frame) : (outboundLine f).length = if f.ext then 27 else 22 := by
  cases hext : f.ext <;> simp [outboundLine, frameText, frameIdChars, hext]

theorem typechar_eq (f : Frame) :
    typechar f = if f.rtr then (if f.ext then 0x52#8 else 0x72#8) else (if f.ext then 0x54#8 else 0x74#8) := by
  unfold typechar
  cases f.ext <;> cases f.rtr <;> rfl

/-- The identifier nybbles of both formats, most significant first (R192). -/
theorem frameIdChars_eq (f : Frame) : frameIdChars f =
    if f.ext then [hexchar (f.id.extractLsb' 28 4), hexchar (f.id.extractLsb' 24 4), hexchar (f.id.extractLsb' 20 4),
      hexchar (f.id.extractLsb' 16 4), hexchar (f.id.extractLsb' 12 4), hexchar (f.id.extractLsb' 8 4),
      hexchar (f.id.extractLsb' 4 4), hexchar (f.id.extractLsb' 0 4)]
    else [hexchar (f.id.extractLsb' 8 4), hexchar (f.id.extractLsb' 4 4), hexchar (f.id.extractLsb' 0 4)] := by
  unfold frameIdChars
  cases f.ext <;> rfl

/-- The five parts of the line, in order (R190). -/
theorem outboundLine_eq (f : Frame) :
    outboundLine f = [typechar f] ++ frameIdChars f ++ [hexchar f.len] ++ dataChars f.data ++ [Config.term] := by
  simp [outboundLine, frameText]

/-- Settles O21: the line has the type character of `typechar_eq`, the identifier of `frameIdChars_eq` and the length of
`length_outboundLine`. -/
theorem encodeFrameLineShape : Obligations.EncodeFrameLineShape := by
  intro f hlen
  rw [encodeFrame_legal hlen, length_outboundLine, Nat.cast_ite, outboundLine_eq, typechar_eq, frameIdChars_eq]
  rfl

/-! ### P4 with a long frame pending (R197) -/

/-- Settles O29: P4 encodes the pending frame, and the encoder refuses it (`encodeFrame_long`). -/
theorem receiveStepRefusesLongFrames : Obligations.ReceiveStepRefusesLongFrames := by
  intro s hph hbus hfav hlong
  have hpending : receivePending s = true := (receivePending_iff s).2 ⟨hbus, hfav⟩
  have hframe : drainedFrame s = s.ctl.rxMailbox := if_pos hpending
  have hseq : sequencerStep s = .refused .receivedLengthAbove8 := by
    rw [sequencerStep, hph]
    simp only [stepReceive, if_pos hpending, hframe, encodeFrame_long hlong]
  rw [step, hseq, thenEnvStep]

/-! ### Frame commands and the frames they build (R164, R198) -/

/-- The frame a frame command builds is sent back as the command's own line (R109, R198). -/
theorem outboundLine_commandFrame (ext rtr : Bool) (id : BitVec 32) (len8 : Byte) (data : Vector Byte 8) :
    outboundLine (commandFrame ext rtr id len8 data) = encode (frameCommand ext rtr id len8 data) ++ [Config.term] := by
  cases ext <;> cases rtr <;> rfl

/-- Every frame is the frame of a frame command, its length read as a byte (R97). -/
theorem commandFrame_self (f : Frame) : commandFrame f.ext f.rtr f.id (f.len.setWidth 8) f.data = f := by
  simp [commandFrame]

/-- The line of a frame, without its terminator, is the line of the command that builds it. -/
theorem outboundLine_dropLast (f : Frame) :
    (outboundLine f).dropLast = encode (frameCommand f.ext f.rtr f.id (f.len.setWidth 8) f.data) := by
  conv_lhs => rw [← commandFrame_self f, outboundLine_commandFrame, List.dropLast_concat]

/-- A frame that meets the invariant has an identifier that the digits of its format spell (R22, R192). -/
theorem frameCommand_wellFormed {f : Frame} (h : frameOk f = true) :
    (frameCommand f.ext f.rtr f.id (f.len.setWidth 8) f.data).wellFormed = true := by
  rw [frameOk, Bool.and_eq_true, frameLenOk_iff, frameIdOk, decide_eq_true_iff] at h
  obtain ⟨hlen, hid⟩ := h
  have hdigit : digitOk (f.len.setWidth 8) = true := by
    rw [digitOk_iff, BitVec.toNat_setWidth]
    omega
  cases hext : f.ext with
  | true => cases f.rtr <;> exact hdigit
  | false =>
    rw [hext, Config.idBits_std] at hid
    have hstd : stdIdOk f.id = true := (stdIdOk_iff f.id).2 (by omega)
    cases f.rtr <;> exact Bool.and_eq_true_iff.2 ⟨hstd, hdigit⟩

/-- A frame command of legal length with a free slot writes the frame it builds, and nothing else but HEAD and the status. -/
theorem exec_frameCommand_enqueues {len8 : Byte} {s : State} (ext rtr : Bool) (id : BitVec 32) (data : Vector Byte 8)
    (hlen : len8.toNat ≤ 8) (hroom : ringFull s = false) :
    exec (frameCommand ext rtr id len8 data) s = .next { s with
      q := s.q.set s.head (commandFrame ext rtr id len8 data)
      head := ringNext s.head
      decStatus := .ok } := by
  rw [Memory.exec_frameCommand, Memory.parseFrame_room ext rtr id data hlen hroom, ringPush_eq]
  rfl

/-- Settles O22: the line is that of a well-formed frame command, which decodes to itself (`Memory.decode_encode`) and enqueues the
frame it builds, `f`. -/
theorem receivedFrameRoundTrip : Obligations.ReceivedFrameRoundTrip := by
  intro f n s hok hroom
  have hlen : f.len.toNat ≤ 8 := (frameLenOk_iff f).1 (Bool.and_eq_true_iff.1 hok).1
  have hlen8 : (f.len.setWidth 8).toNat ≤ 8 := by
    rw [BitVec.toNat_setWidth]
    omega
  refine ⟨_, Encoding.decode_of_encode_eq n (outboundLine_dropLast f).symm (frameCommand_wellFormed hok), ?_⟩
  rw [exec_frameCommand_enqueues _ _ _ _ hlen8 hroom, commandFrame_self]

/-! ### Upper-case digits are spelled as they were read (R93, R108) -/

/-- The characters `hexchar` gives: `0` to `9` and `A` to `F`. -/
def UpperHex (c : Byte) : Prop := (0x30 ≤ c.toNat ∧ c.toNat ≤ 0x39) ∨ (0x41 ≤ c.toNat ∧ c.toNat ≤ 0x46)

/-- The value of an upper-case digit is written as that digit; a lower-case one would come back in upper case. -/
theorem hexval_map_digitChar : ∀ c : Byte, UpperHex c → (hexval c).map digitChar = some c := by
  unfold UpperHex
  decide

/-- The digits up to `8` are those of the values up to 8. -/
theorem le_eight_of_digitChar_le : ∀ d : Byte, d.toNat < 16 → (digitChar d).toNat ≤ 0x38 → d.toNat ≤ 8 := by decide

/-- The two nybbles of a byte assembled from two values, the second below 16 (R62, R98). -/
theorem extract_assembledByte (hi : Byte) {lo : Byte} (h : lo.toNat < 16) :
    (hi * 16#8 + lo).extractLsb' 4 4 = hi.setWidth 4 ∧ (hi * 16#8 + lo).extractLsb' 0 4 = lo.setWidth 4 := by
  constructor
  · apply BitVec.eq_of_toNat_eq
    simp [BitVec.toNat_add, BitVec.toNat_mul, Nat.shiftRight_eq_div_pow]
    omega
  · apply BitVec.eq_of_toNat_eq
    simp [BitVec.toNat_add, BitVec.toNat_mul]

/-- One more nybble of an identifier is its low end, behind the nybbles of the rest (R192). -/
theorem idChars_succ (count : Nat) (id : BitVec 32) :
    idChars (count + 1) id = idChars count (id >>> 4) ++ [hexchar (id.extractLsb' 0 4)] := by
  have hhigh : ∀ j ∈ List.range count,
      hexchar (id.extractLsb' (4 * (count - j)) 4) = hexchar ((id >>> 4).extractLsb' (4 * (count - 1 - j)) 4) := by
    intro j hj
    rw [List.mem_range] at hj
    have hpos : 4 * (count - j) = 4 + 4 * (count - 1 - j) := by omega
    rw [hpos, BitVec.extractLsb', BitVec.extractLsb', BitVec.toNat_ushiftRight, Nat.shiftRight_add]
  simp only [idChars, List.range_succ, List.map_append, List.map_singleton, Nat.add_sub_cancel, Nat.sub_self, Nat.mul_zero,
    List.map_congr_left hhigh]

/-- What assembly shifts in at the low end is the low nybble, and what stood before it is the rest (R96). -/
theorem idChars_shiftIn {count : Nat} {id : BitVec 32} {v : Byte} (hid : id.toNat < 2 ^ 28) (hv : v.toNat < 16) :
    idChars (count + 1) (id * 16#32 + v.setWidth 32) = idChars count id ++ [digitChar v] := by
  have hrest : (id * 16#32 + v.setWidth 32) >>> 4 = id := by
    apply BitVec.eq_of_toNat_eq
    simp [BitVec.toNat_add, BitVec.toNat_mul, Nat.shiftRight_eq_div_pow]
    omega
  have hlow : (id * 16#32 + v.setWidth 32).extractLsb' 0 4 = v.setWidth 4 := by
    apply BitVec.eq_of_toNat_eq
    simp [BitVec.toNat_add, BitVec.toNat_mul]
  rw [idChars_succ, hrest, hlow, digitChar]

/-! ### The operands of an upper-case frame line, spelled again (R96 to R98, R198) -/

section
variable {digits : List Byte} (hupper : ∀ c ∈ digits, UpperHex c) (n : Nat) (op : Byte)
include hupper

theorem nyb_upperHex {p : Nat} (hp : p < digits.length) :
    digitChar (nyb n (op :: digits) (p + 1)) = digits[p] ∧ (nyb n (op :: digits) (p + 1)).toNat < 16 := by
  obtain ⟨v, hv, hchar⟩ := Option.map_eq_some_iff.1 (hexval_map_digitChar _ (hupper _ (List.getElem_mem hp)))
  have hnyb : nyb n (op :: digits) (p + 1) = v := nyb_hex (by simp [hp]) hv
  rw [hnyb]
  exact ⟨hchar, hexval_lt_sixteen hv⟩

theorem assembleId_lt {count : Nat} (hcount : count ≤ digits.length) :
    (assembleId n (op :: digits) count).toNat < 16 ^ count := by
  induction count with
  | zero => simp
  | succ count ih =>
    obtain ⟨-, hnyb⟩ := nyb_upperHex hupper n op hcount
    have hrest := ih (by omega)
    rw [Encoding.assembleId_succ_toNat]
    refine (Nat.mod_le _ _).trans_lt ?_
    omega

theorem idChars_assembleId {count : Nat} (hcount : count ≤ digits.length) (h8 : count ≤ 8) :
    idChars count (assembleId n (op :: digits) count) = digits.take count := by
  induction count with
  | zero => rfl
  | succ count ih =>
    obtain ⟨hchar, hnyb⟩ := nyb_upperHex hupper n op hcount
    have hrest : (assembleId n (op :: digits) count).toNat < 2 ^ 28 :=
      calc (assembleId n (op :: digits) count).toNat
          < 16 ^ count := assembleId_lt hupper n op (by omega)
        _ ≤ 16 ^ 7 := Nat.pow_le_pow_right (by decide) (by omega)
    rw [Encoding.assembleId_succ, idChars_shiftIn hrest hnyb, hchar, ih (by omega) (by omega),
      List.take_succ_eq_append_getElem hcount]

/-- The two characters of payload slot `k`, spelled from the byte assembled at its positions. -/
theorem dataChars_assembleData_slot {base k : Nat} (hk : k < 8) (hlen : base + 2 * k + 1 < digits.length) :
    (dataChars (assembleData n (op :: digits) (base + 1)))[2 * k]? = digits[base + 2 * k]? ∧
    (dataChars (assembleData n (op :: digits) (base + 1)))[2 * k + 1]? = digits[base + 2 * k + 1]? := by
  obtain ⟨hhi, -⟩ := nyb_upperHex hupper n op (Nat.lt_of_succ_lt hlen)
  obtain ⟨hlo, hlt⟩ := nyb_upperHex hupper n op hlen
  obtain ⟨ehi, elo⟩ := extract_assembledByte (nyb n (op :: digits) (base + 2 * k + 1)) hlt
  obtain ⟨shi, slo⟩ := dataChars_slot (assembleData n (op :: digits) (base + 1)) ⟨k, hk⟩
  rw [Fin.getElem_fin, Encoding.assembleData_getElem n (op :: digits) (base + 1) hk, Nat.add_right_comm base 1] at shi slo
  rw [shi, slo, ehi, elo, List.getElem?_eq_getElem (Nat.lt_of_succ_lt hlen), List.getElem?_eq_getElem hlen, ← hhi, ← hlo]
  exact ⟨rfl, rfl⟩

theorem dataChars_assembleData {base : Nat} (hlen : digits.length = base + 16) :
    dataChars (assembleData n (op :: digits) (base + 1)) = digits.drop base := by
  apply List.ext_getElem?
  intro i
  rw [List.getElem?_drop]
  by_cases hi : i < 16
  · obtain ⟨k, rfl | rfl⟩ := Nat.even_or_odd' i
    · exact (dataChars_assembleData_slot hupper n op (by omega) (by omega)).1
    · exact (dataChars_assembleData_slot hupper n op (by omega) (by omega)).2
  · rw [List.getElem?_eq_none (by rw [length_dataChars]; omega), List.getElem?_eq_none (by omega)]

/-- The digits of a frame line of its format's width are the spelling of the operands read from it. -/
theorem operandChars_of_read {count : Nat} (hlen : digits.length = count + 17) (h8 : count ≤ 8) :
    idChars count (assembleId n (op :: digits) count) ++
      digitChar (nyb n (op :: digits) (count + 1)) :: dataChars (assembleData n (op :: digits) (count + 2)) = digits := by
  obtain ⟨hchar, -⟩ := nyb_upperHex hupper n op (p := count) (by omega)
  rw [idChars_assembleId hupper n op (by omega) h8, hchar, dataChars_assembleData hupper n op hlen,
    List.cons_getElem_drop_succ, List.take_append_drop]

end

/-! ### A frame line comes back as it was (R198) -/

/-- The opcode byte of each frame command, with the frame kind it stands for (R160 to R163). -/
def frameOpcodes : List (Byte × Bool × Bool) :=
  [(0x74#8, false, false), (0x54#8, true, false), (0x72#8, false, true), (0x52#8, true, true)]

section
variable {op : Byte} {ext rtr : Bool} (h : (op, ext, rtr) ∈ frameOpcodes)
include h

/-- A frame opcode decodes to its frame command, with the operands at the positions of its format (R92). -/
theorem decode_frameOpcode (n : Nat) (rest : List Byte) :
    decode n (op :: rest) = .ok (frameCommand ext rtr (assembleId n (op :: rest) (Config.idNybbles ext))
      (nyb n (op :: rest) (lengthPos ext)) (assembleData n (op :: rest) (dataPos ext))) := by
  simp only [frameOpcodes, List.mem_cons, Prod.mk.injEq, List.not_mem_nil, or_false] at h
  obtain ⟨rfl, rfl, rfl⟩ | ⟨rfl, rfl, rfl⟩ | ⟨rfl, rfl, rfl⟩ | ⟨rfl, rfl, rfl⟩ := h <;> rfl

/-- The line of the frame begins with the opcode byte of the command that builds it (R191). -/
theorem outboundLine_frameOpcode (id : BitVec 32) (len8 : Byte) (data : Vector Byte 8) :
    outboundLine (commandFrame ext rtr id len8 data) =
      op :: (idChars (Config.idNybbles ext) id ++ digitChar len8 :: dataChars data) ++ [Config.term] := by
  simp only [frameOpcodes, List.mem_cons, Prod.mk.injEq, List.not_mem_nil, or_false] at h
  obtain ⟨rfl, rfl, rfl⟩ | ⟨rfl, rfl, rfl⟩ | ⟨rfl, rfl, rfl⟩ | ⟨rfl, rfl, rfl⟩ := h <;> rfl

/-- The frame read from an upper-case line of its format's width is written as that line. -/
theorem outboundLine_of_read {digits : List Byte} (hupper : ∀ c ∈ digits, UpperHex c)
    (hlen : digits.length = Config.idNybbles ext + 17) (n : Nat) :
    outboundLine (commandFrame ext rtr (assembleId n (op :: digits) (Config.idNybbles ext))
      (nyb n (op :: digits) (lengthPos ext)) (assembleData n (op :: digits) (dataPos ext))) = op :: digits ++ [Config.term] := by
  have h8 : Config.idNybbles ext ≤ 8 := by cases ext <;> decide
  have hread := operandChars_of_read hupper n op hlen h8
  rw [outboundLine_frameOpcode h, lengthPos, dataPos, Nat.add_comm 1, Nat.add_comm 2, hread]

end

/-- Settles O23: for a text, the frame is the one read from it (`outboundLine_of_read`), legal because its length digit is one up to
`8`; for a command, it is the one the command builds (`outboundLine_commandFrame`). -/
theorem frameLineIsReproduced : Obligations.FrameLineIsReproduced := by
  refine ⟨fun n op ext rtr digits hop hwidth hupper hdigit => ?_, fun id len8 data _ => ?_⟩
  · have hlen : digits.length = Config.idNybbles ext + 17 := by cases ext <;> exact hwidth
    have hpos : Config.idNybbles ext < digits.length := by omega
    have hlegal : (nyb n (op :: digits) (lengthPos ext)).toNat ≤ 8 := by
      obtain ⟨hchar, hlt⟩ := nyb_upperHex hupper n op hpos
      rw [lengthPos, Nat.add_comm 1]
      exact le_eight_of_digitChar_le _ hlt (hchar ▸ hdigit _ (List.getElem?_eq_getElem hpos))
    exact ⟨_, _, decode_frameOpcode hop n digits, rfl, rfl, outboundLine_of_read hop hupper hlen n,
      fun s hroom => exec_frameCommand_enqueues ext rtr _ _ hlegal hroom⟩
  · exact ⟨outboundLine_commandFrame false false id len8 data, outboundLine_commandFrame true false id len8 data,
      outboundLine_commandFrame false true id len8 data, outboundLine_commandFrame true true id len8 data⟩

end Sys2Proof.Proofs.Encoder
end

section
/-! PROOFS. The statements of spec/43_poll_loop.md about the single steps of an iteration (R200 to R210). In each phase the step is
that phase's own (`stepsThrough_input` to `stepsThrough_receive`); what it does is then the rule of the operation it calls. -/

namespace Sys2Proof.Proofs.PollLoop
open Sys2Proof Sys2Proof.Machine

/-! ### The step of each phase (R200) -/

section
variable {s t : State}

theorem stepsThrough_input (h : s.ph = .p1Input) : StepsThrough s t ↔ stepInput s = .next t := by
  rw [stepsThrough_iff, sequencerStep, h]

theorem stepsThrough_led (h : s.ph = .p2Led) : StepsThrough s t ↔ stepLed s = t := by
  rw [stepsThrough_iff, sequencerStep, h, Host.Outcome.next.injEq]

theorem stepsThrough_transmit (h : s.ph = .p3TxSvc) : StepsThrough s t ↔ stepTransmit s = t := by
  rw [stepsThrough_iff, sequencerStep, h, Host.Outcome.next.injEq]

theorem stepsThrough_receive (h : s.ph = .p4RxSvc) : StepsThrough s t ↔ stepReceive s = .next t := by
  rw [stepsThrough_iff, sequencerStep, h]

end

/-! ### P1 and P2 (R201 to R204) -/

theorem stepInput_appends {s : State} {b : Byte} {rest : List Byte} (ho : s.opening = false) (hi : s.inbound = b :: rest)
    (hb : b ≠ Config.term) : stepInput s = .next (appendByte b (tookByte b rest s)) := by
  rw [stepInput_taken ho hi, accumulate, if_neg hb]

/-- Settles O31: the byte is taken (`tookByte`), and then stored by the accumulator's rule for room or for a full buffer. -/
theorem inputByteIsAccumulated : Obligations.InputByteIsAccumulated := by
  intro b rest s hp ho hi hb
  refine ⟨fun hroom => ?_, fun hfull => ?_⟩ <;> rw [stepsThrough_input hp, stepInput_appends ho hi hb]
  · rw [appendByte_room (s := tookByte b rest s) b hroom]
    rfl
  · rw [appendByte_full (s := tookByte b rest s) b hfull]
    rfl

theorem inAvail_empty {s : State} (h : s.inbound = []) : inAvail s = s.log (.inAvail false) := by
  rw [inAvail, h]
  rfl

/-- Settles O36: without a byte P1 is `endInput`, and P2 writes the phase alone. -/
theorem inputEndsAndLedStep : Obligations.InputEndsAndLedStep := by
  refine ⟨fun s hp ho hi => ?_, fun s hp => (stepsThrough_led hp).2 rfl⟩
  rw [stepsThrough_input hp, State.stepInput_ended ho hi, inAvail_empty (s := s.setIm true) hi]
  rfl

/-! ### P3 (R205, R130) -/

section
variable {s : State}

theorem serviceTransmit_empty (h : s.head = s.tail) : serviceTransmit s = s :=
  if_pos ((State.ringEmpty_iff s).2 h)

theorem ringEmpty_of_ne (h : s.head ≠ s.tail) : ringEmpty s = false := decide_eq_false h

theorem serviceTransmit_busy (h : s.head ≠ s.tail) (hbusy : s.ctl.txip = true) :
    serviceTransmit s = { s with trace := s.trace ++ [.txip true] } := by
  simpa [ringEmpty_of_ne h, hbusy] using serviceTransmit_cases s

theorem serviceTransmit_accepted (h : s.head ≠ s.tail) (hfree : s.ctl.txip = false) (hok : s.ctl.accepts = true) :
    serviceTransmit s = { s with
      tail := ringNext s.tail
      ctl := { s.ctl with txMailbox := s.q[s.tail] }
      trace := s.trace ++ [.txip false, .submit s.q[s.tail] true] } := by
  simpa [ringEmpty_of_ne h, hfree, hok] using serviceTransmit_cases s

theorem serviceTransmit_rejected (h : s.head ≠ s.tail) (hfree : s.ctl.txip = false) (hno : s.ctl.accepts = false) :
    serviceTransmit s = { s with
      tail := ringNext s.tail
      txfailCnt := s.txfailCnt + 1
      trace := s.trace ++ [.txip false, .submit s.q[s.tail] false] } := by
  simpa [ringEmpty_of_ne h, hfree, hno] using serviceTransmit_cases s

end

/-- Settles O26: one rule of `service_transmit` for each clause. -/
theorem transmitServiceStep : Obligations.TransmitServiceStep := by
  intro s hp
  simp only [stepsThrough_transmit hp, stepTransmit, ← Codec.ringNext_eq]
  refine ⟨fun h => ?_, fun h hbusy => ?_, fun h hfree hok => ?_, fun h hfree hno => ?_⟩
  · rw [serviceTransmit_empty h]
    rfl
  · rw [serviceTransmit_busy h hbusy]
    rfl
  · rw [serviceTransmit_accepted h hfree hok]
    rfl
  · rw [serviceTransmit_rejected h hfree hno]
    rfl

/-! ### P4 (R206, R207, R132, R133) -/

theorem stepReceive_idle {s : State} (h : receivePending s = false) :
    stepReceive s = .next ((consultPending s).setPh .p1Input) := by
  rw [stepReceive, h]
  rfl

/-- Settles O27: nothing is pending, and P4 only consults FAV, which it does with the bus open alone. -/
theorem receiveStepWithNothingPending : Obligations.ReceiveStepWithNothingPending := by
  intro s hp
  refine ⟨fun hoff => ?_, fun hon hclear => ?_⟩ <;> rw [stepsThrough_receive hp]
  · rw [stepReceive_idle (receivePending_offBus hoff), consultPending_offBus hoff]
    rfl
  · rw [stepReceive_idle ((receivePending_onBus hon).trans hclear), consultPending_onBus hon, hclear]
    rfl

/-- With a legal frame pending, P4 asks FAV, drains the frame and writes its line, which is not empty (R206, R207). -/
theorem stepReceive_pending {s : State} (h : receivePending s = true) (hlen : s.ctl.rxMailbox.len.toNat ≤ 8) :
    stepReceive s = .next
      ((outWrite (outboundLine s.ctl.rxMailbox) (receiveDrain (consultPending s))).setPh .p1Input) := by
  have hframe : drainedFrame s = s.ctl.rxMailbox := if_pos h
  have hcount : (0 : Int) < (outboundLine s.ctl.rxMailbox).length := by
    rw [Encoder.length_outboundLine]
    split <;> decide
  simp only [stepReceive, if_pos h, hframe, Encoder.encodeFrame_legal hlen, writeEncoded, if_pos hcount]

/-- Settles O28: the frame is still pending after FAV is read, so the drain reads the mailbox. -/
theorem receiveStepWritesOneLine : Obligations.ReceiveStepWritesOneLine := by
  intro s hp hon hfav hlen
  have hpending : receivePending s = true := (receivePending_iff s).2 ⟨hon, hfav⟩
  have hstill : receivePending (consultPending s) = true := by
    rw [consultPending_onBus hon]
    exact hpending
  rw [stepsThrough_receive hp, stepReceive_pending hpending hlen, receiveDrain_pending hstill, consultPending_onBus hon, hfav]
  simp only [outWrite, State.log, State.appendOut, State.setPh, List.append_assoc, List.cons_append, List.nil_append]

end Sys2Proof.Proofs.PollLoop
end

section
/-! PROOFS. The statements of spec/60_exceptions.md: what a frame command does when the ring is full (R222, R164), and that no failure
stops the machine (R220, R231). -/

namespace Sys2Proof.Proofs.Exceptions
open Sys2Proof Sys2Proof.Machine

/-! ### Queue full (R222) -/

/-- A parsed frame of legal length is lost on a full ring: it is counted, and the status is the drawn one (R164, R222). -/
theorem parseFrame_full {len8 : Byte} {s : State} (ext rtr : Bool) (id : BitVec 32) (data : Vector Byte 8)
    (hlen : len8.toNat ≤ 8) (hfull : ringFull s = true) :
    parseFrame ext rtr id len8 data s = returnOnQueueFull s.bumpQfull := by
  rw [parseFrame, if_pos ((lengthLegal_iff len8).2 hlen), queueFrame, if_pos hfull, transmitEnqueue_full _ hfull]

/-- A frame command of legal length on a full ring, whichever of the four it is. -/
theorem exec_frameCommand_full {len8 : Byte} {s : State} (ext rtr : Bool) (id : BitVec 32) (data : Vector Byte 8)
    (hlen : len8.toNat ≤ 8) (hfull : (s.head.val + 1) % 28 = s.tail.val) :
    exec (frameCommand ext rtr id len8 data) s = .next { s with
      qfullCnt := s.qfullCnt + 1
      decStatus := Config.statusOnQfull s.draws
      draws := s.draws + 1 } := by
  rw [Memory.exec_frameCommand, parseFrame_full ext rtr id data hlen ((State.ringFull_iff s).2 hfull)]
  rfl

/-- Settles O11: the four are one command of four frame kinds, and the common status is the draw of `STATUS_ON_QFULL` (R8, D15). -/
theorem frameCommandsOnFullRingCount : Obligations.FrameCommandsOnFullRingCount := fun id _ data s hlen hfull =>
  ⟨Config.statusOnQfull s.draws,
    exec_frameCommand_full false false id data hlen hfull, exec_frameCommand_full true false id data hlen hfull,
    exec_frameCommand_full false true id data hlen hfull, exec_frameCommand_full true true id data hlen hfull⟩

/-! ### No failure stops a command (R220, R231) -/

/-- Settles O48: by the inversion of `exec`, whose every case is a next state. -/
theorem everyCommandAnswersANextState : Obligations.EveryCommandAnswersANextState := by
  intro i s
  obtain ⟨t, hnext, _⟩ := exec_inv i s
  exact ⟨t, hnext⟩

end Sys2Proof.Proofs.Exceptions
end
